-- ==== Sys2Proof/Word.lean ====
section
/-! DEFINITION. The sizes and index types of the Ulmenta UG440 (spec/00_scope.md, Terms). -/

namespace Sys2Proof

/-- A value as it crosses the management link: 16 bits (R166). -/
abbrev Word := BitVec 16

/-- One 16-byte unit of data. -/
abbrev Beat := BitVec 128

/-- A thermal zone, 0..7. -/
abbrev ZoneIx := Fin 8

/-- A slot of the transaction table, 0..63 (R1). -/
abbrev SlotIx := Fin 64

/-- An address window, 0..15 (R44). -/
abbrev WinIx := Fin 16

/-- A sensor channel, 0..7 (R104). -/
abbrev ChanIx := Fin 8

/-- A zone field: a governed zone, or `none` for UNGOVERNED. -/
abbrev ZoneRef := Option ZoneIx

/-- A saturating 32-bit counter (R171, R172). -/
abbrev Counter := BitVec 32

end Sys2Proof
end

