-- ==== Sys2Proof/Syntax.lean ====
section
/-! DEFINITION. The commands of the block: one constructor of `Instr` per row of spec/opcode_table.json, with the
records that cross the bus ports (R26, R27). -/

namespace Sys2Proof

/-- A requester port. -/
inductive Port where
  | a | b
  deriving DecidableEq, Repr

/-- A request's direction. -/
inductive Dir where
  | read | write
  deriving DecidableEq, Repr

/-- One beat of write data, each of its 16 bytes with its own enable (R26). -/
structure WriteBeat where
  data    : Beat
  enables : BitVec 16
  deriving DecidableEq, Repr

/-- A request record (R26). The address is held as byte address bits 39..4: its four lowest bits are zero. -/
structure Request where
  id       : Fin 16
  dir      : Dir
  beatAddr : BitVec 36
  length   : Nat
  data     : List WriteBeat
  deriving DecidableEq, Repr

/-- The status of a response record (R27). -/
inductive RespStatus where
  | okay | memError | fenced | expired | refused
  deriving DecidableEq, Repr

/-- A response as memory offers it: a downstream ID 0..31, a status, data beats (R29, R40). -/
structure MemResponse where
  did    : Fin 32
  status : RespStatus
  data   : List Beat
  deriving DecidableEq, Repr

/-- The commands, in the order of spec/opcode_table.json. -/
inductive Instr where
  | powerOnReset
  | resetNAssert
  | resetNRelease
  | requestOffer (p : Port) (r : Request)
  | requestTake (p : Port)
  | memoryOffer
  | memoryTake
  | memoryResponse (m : MemResponse)
  | responseOffer (p : Port)
  | delivery (p : Port)
  | refillTick
  | ageTick
  | cycleBoundary
  | controlTick
  /-- `raw` is the raw temperature in half-degrees, of any size (R108 clamps it). -/
  | conversionCompletion (raw : Int)
  | conversionFault
  | emptyRoundEnd
  | railgoodFall
  | railgoodRise
  | railFilterExpiry
  | surgeAssert
  | surgeDeassert
  | surgeFilterExpiry
  | leaseOpenTime
  | leaseCloseTime
  | frozenEntry
  /-- `edges` is the number of rising SCK edges of the frame, other than 32 (R159). -/
  | frameError (edges : Nat)
  | nop
  /-- `code` is a command byte that is not in the command table (R160). -/
  | unknown (code : BitVec 8)
  | selectObject (cls : BitVec 8) (index : Word)
  | selectField (field : Word)
  | read
  | write (v : Word)
  | refillPeriodWrite (v : Word)
  | controlDivisorWrite (v : Word)
  | quotaWrite (v : Word)
  | ceilingWrite (v : Word)
  | configuredModeWrite (v : Word)
  | sensorWrite (v : Word)
  | openRateWrite (v : Word)
  | fallbackRateWrite (v : Word)
  | rateMinWrite (v : Word)
  | rateMaxWrite (v : Word)
  | channelEnableWrite (v : Word)
  | monitorModeWrite (v : Word)
  | fenceScopeWrite (v : Word)
  | railModeWrite (v : Word)
  | surgeModeWrite (v : Word)
  | indicatorSourceWrite (v : Word)
  | eventMaskWrite (v : Word)
  | clearFences
  | clearRail
  | clearSurge
  | clearLease
  | drain
  | resume
  | resetConfig
  | leaseStart
  | leaseRenew
  | leaseStop
  | snapshot (arg : BitVec 8) (v : Word)
  | readEvents
  | csNAssert
  | powerOnCsNRelease
  | clear (mask : Word)
  | repetitionPeriodStart
  deriving DecidableEq, Repr

end Sys2Proof
end

