-- ==== Sys2Proof/WellFormed.lean ====
section
/-! DEFINITION. Which terms of `Instr` spell a command of the part. -/

namespace Sys2Proof

/-- The command codes of section 10.2. -/
def frameCodes : List (BitVec 8) :=
  [0x00, 0x10, 0x11, 0x20, 0x21, 0x30, 0x40, 0x41, 0x42, 0x50, 0x51, 0x52, 0x60, 0x61]

/-- R26: a length of 1..16 beats, and exactly that many data beats on a WRITE, none on a READ. -/
def Request.wellFormed (r : Request) : Bool :=
  decide (1 ≤ r.length) && decide (r.length ≤ 16) &&
    decide (r.data.length = match r.dir with
      | .write => r.length
      | .read => 0)

/-- The check of a command's operands (log entry 20). Every other operand is well formed by its type. -/
def Instr.wellFormed : Instr → Bool
  | .requestOffer _ r => r.wellFormed
  | .frameError edges => decide (edges ≠ 32)
  | .unknown code => !frameCodes.contains code
  | .powerOnReset | .resetNAssert | .resetNRelease | .requestTake _ | .memoryOffer | .memoryTake
  | .memoryResponse _ | .responseOffer _ | .delivery _ | .refillTick | .ageTick | .cycleBoundary | .controlTick
  | .conversionCompletion _ | .conversionFault | .emptyRoundEnd | .railgoodFall | .railgoodRise
  | .railFilterExpiry | .surgeAssert | .surgeDeassert | .surgeFilterExpiry | .leaseOpenTime | .leaseCloseTime
  | .frozenEntry | .nop | .selectObject _ _ | .selectField _ | .read | .write _ | .refillPeriodWrite _
  | .controlDivisorWrite _ | .quotaWrite _ | .ceilingWrite _ | .configuredModeWrite _ | .sensorWrite _
  | .openRateWrite _ | .fallbackRateWrite _ | .rateMinWrite _ | .rateMaxWrite _ | .channelEnableWrite _
  | .monitorModeWrite _ | .fenceScopeWrite _ | .railModeWrite _ | .surgeModeWrite _ | .indicatorSourceWrite _
  | .eventMaskWrite _ | .clearFences | .clearRail | .clearSurge | .clearLease | .drain | .resume | .resetConfig
  | .leaseStart | .leaseRenew | .leaseStop | .snapshot _ _ | .readEvents | .csNAssert | .powerOnCsNRelease
  | .clear _ | .repetitionPeriodStart => true

end Sys2Proof
end

