-- ==== Sys2Proof/Decode.lean ====
section
/-! DEFINITION. The wire layout of a management frame: the 32 inbound bits and the command they carry (R156, section
10.2), the bits captured from SDI edge by edge (R156, R159), and `decodeTableWord`, which reads a word of 32 bits as a
frame's inbound bits (log entry 21). -/

namespace Sys2Proof

/-- Inbound bits 31..24 of a frame: the command code (R156). -/
def frameCode (w : BitVec 32) : BitVec 8 := w.extractLsb' 24 8

/-- Inbound bits 23..16 of a frame: the argument (R156). -/
def frameArg (w : BitVec 32) : BitVec 8 := w.extractLsb' 16 8

/-- Inbound bits 15..0 of a frame: the value (R156). -/
def frameValue (w : BitVec 32) : Word := w.extractLsb' 0 16

/-- The command that a valid frame carries (section 10.2). Unused arguments and values are ignored, and a code that is
not in the table gives UNKNOWN (R160). -/
def commandOfFrame (w : BitVec 32) : Instr :=
  if frameCode w = 0x00 then .nop
  else if frameCode w = 0x10 then .selectObject (frameArg w) (frameValue w)
  else if frameCode w = 0x11 then .selectField (frameValue w)
  else if frameCode w = 0x20 then .read
  else if frameCode w = 0x21 then .write (frameValue w)
  else if frameCode w = 0x30 then .clear (frameValue w)
  else if frameCode w = 0x40 then .drain
  else if frameCode w = 0x41 then .resume
  else if frameCode w = 0x42 then .resetConfig
  else if frameCode w = 0x50 then .leaseStart
  else if frameCode w = 0x51 then .leaseRenew
  else if frameCode w = 0x52 then .leaseStop
  else if frameCode w = 0x60 then .snapshot (frameArg w) (frameValue w)
  else if frameCode w = 0x61 then .readEvents
  else .unknown (frameCode w)

/-- The 32 inbound bits of a frame with this code, argument and value (R156). -/
def frameWord (code : BitVec 8) (arg : BitVec 8) (v : Word) : BitVec 32 := (code ++ arg) ++ v

/-- The inbound bits captured from SDI at the rising edges of SCK: most significant bit first (R156). -/
def captured (sdi : List Bool) : BitVec 32 := sdi.foldl BitVec.shiftConcat 0

/-- The command that the release of CS_N brings after these bits of SDI, one for each rising edge of SCK: the frame's own
after exactly 32, a frame error after any other number (R156, R159). -/
def commandOfEdges (sdi : List Bool) : Instr :=
  if sdi.length = 32 then commandOfFrame (captured sdi) else .frameError sdi.length

/-- The command a word spells. The table gives no row bits; the 32 inbound bits of a frame are the only word that R156
gives the part, and a word of another width spells none (log entry 21). -/
def decodeTableWord (nbits w : Nat) : Option Instr :=
  if nbits = 32 then some (commandOfFrame (BitVec.ofNat 32 w)) else none

end Sys2Proof
end

