-- ==== Sys2Proof/Config.lean ====
section
/-! DEFINITION. What the part fixes for every run, and the model's free values. -/

namespace Sys2Proof.Config

/-- The write data pool's storage in beats (R35). -/
def poolBeats : Nat := 256

/-- Power-on refill period in microseconds (R60). -/
def refillPeriod : Nat := 10

/-- Power-on control divisor (R111). -/
def controlDivisor : Nat := 100

/-- Power-on ceiling and credit of every zone (R56). -/
def ceiling : Nat := 65535

/-- FREE VALUE (log entry 4): where, in the order in which they are taken, the spec leaves an event that falls due in
the same microsecond as others. The first argument numbers the microseconds in which events fell due, the second is
the number of events already placed. -/
opaque freeRank : Nat → Nat → Nat

end Sys2Proof.Config
end

