-- ==== Sys2Proof/Machine/State.lean ====
section
/-! DEFINITION. The machine's state, all of it plain data, and the state right after power-on reset. Every field names
the rule of spec/ that gives it; INVENTORY.md lists them with their reset values. -/

namespace Sys2Proof.Machine

/-- One value for each requester port. -/
structure Both (α : Type) where
  a : α
  b : α
  deriving DecidableEq, Repr

/-! ### The transaction table (Chapter 1) -/

/-- The hold reasons a HELD slot carries (R11). -/
structure Reasons where
  budget : Bool
  order  : Bool
  freeze : Bool
  rail   : Bool
  surge  : Bool
  deriving DecidableEq, Repr

/-- What the part answers itself (R1). -/
inductive AnswerStatus where
  | fenced | expired | refused
  deriving DecidableEq, Repr

/-- A slot's state with the optional fields present in it (R1, R2). -/
inductive SlotState where
  | free
  | held (reasons : Reasons) (age : Nat)
  | ready
  | forwarded (responsePresent : Bool)
  | answering (status : AnswerStatus)
  deriving DecidableEq, Repr

/-- A slot record (R1). `window` is `none` for NONE, `zone` is `none` for UNGOVERNED. -/
structure Slot where
  state    : SlotState
  port     : Port
  id       : Fin 16
  dir      : Dir
  beatAddr : BitVec 36
  length   : Nat
  window   : Option WinIx
  zone     : ZoneRef
  cost     : Nat
  paid     : Bool
  forced   : Bool
  deriving DecidableEq, Repr

/-- A key: the pair of port and ID (R8). -/
structure Key where
  port : Port
  id   : Fin 16
  deriving DecidableEq, Repr

/-- A request standing at a requester port, with its mark of having been counted as a stall (R31). -/
structure StandingOffer where
  req     : Request
  counted : Bool
  deriving DecidableEq, Repr

/-- A response record towards a requester (R27). -/
structure Response where
  id     : Fin 16
  status : RespStatus
  data   : List Beat
  deriving DecidableEq, Repr

/-- The kind of an offered response (R91). -/
inductive OfferKind where
  | memory | synthetic
  deriving DecidableEq, Repr

/-- A delivery arbiter's current offer (R91) with the record on the channel (R98, R99). -/
structure RespOffer where
  slot : SlotIx
  kind : OfferKind
  resp : Response
  deriving DecidableEq, Repr

/-- The memory response on the channel and the slot it is matched to (R39). -/
structure Matched where
  resp : MemResponse
  slot : SlotIx
  deriving DecidableEq, Repr

/-- The eight counters of a zone (R171). -/
structure ZoneCounters where
  admittedRequests : Counter
  admittedBeats    : Counter
  heldRequests     : Counter
  expired          : Counter
  forced           : Counter
  fencedAnswers    : Counter
  refusedAnswers   : Counter
  memoryErrors     : Counter
  deriving DecidableEq, Repr

/-- What the transaction path changes of a zone: credit (R56), longest hold (R88), counters (R171). -/
structure Account where
  credit      : Int
  longestHold : Nat
  counters    : ZoneCounters
  deriving DecidableEq, Repr

/-- The transaction path: the table, the pool, the three bus ports, the accounts, the event flags. The held list, the
key chains, the forwarded and answering sets and all occupancies are views of it (log entry 19). -/
structure Traffic where
  /-- the 64 slot records (R1) -/
  slots        : Vector Slot 64
  /-- the acceptance order of the non-FREE slots, oldest first (R4) -/
  order        : List SlotIx
  /-- the ready queue, head first (R7) -/
  ready        : List SlotIx
  /-- write data stored against its slot (R35) -/
  pool         : Vector (List WriteBeat) 64
  /-- the requests standing at the requester ports (R28) -/
  offers       : Both (Option StandingOffer)
  /-- the intake arbiter's next winner (R32) -/
  nextWinner   : Port
  /-- the offer on the memory request channel (R37) -/
  memOffer     : Option SlotIx
  /-- the matched response on the memory response channel (R39) -/
  memChannel   : Option Matched
  /-- responses memory has ready behind it (R39, R95; log entry 10) -/
  memBacklog   : List MemResponse
  /-- the delivery arbiters' current offers (R91) -/
  resps        : Both (Option RespOffer)
  /-- credits, longest holds and counters of the zones -/
  accounts     : Vector Account 8
  /-- the 16 event flags in the positions of section 10.4 (R168) -/
  flags        : BitVec 16
  /-- global counter (R31, R172) -/
  intakeStalls : Counter
  /-- global counter (R41, R172) -/
  orphans      : Counter
  deriving DecidableEq, Repr

/-! ### The control side -/

/-- R149. -/
inductive Governor where
  | run | draining | frozen
  deriving DecidableEq, Repr

/-- R33, R44. -/
inductive Attribute where
  | readWrite | readOnly | blocked
  deriving DecidableEq, Repr

/-- A window record (R44). -/
structure Window where
  enabled   : Bool
  basePage  : BitVec 28
  limitPage : BitVec 28
  zone      : ZoneRef
  attr      : Attribute
  deriving DecidableEq, Repr

/-- R78. -/
inductive Policy where
  | abort | force
  deriving DecidableEq, Repr

/-- A zone's configured mode (R110). -/
inductive Mode where
  | openLoop | pi
  deriving DecidableEq, Repr

/-- A zone's effective source (R110, R117). -/
inductive Source where
  | openLoop | pi | fallback
  deriving DecidableEq, Repr

/-- A zone's control record (R110). Gains and `u` are in 1/256 credit. -/
structure Control where
  sensor       : Option ChanIx
  mode         : Mode
  openRate     : Nat
  fallbackRate : Nat
  setpoint     : Int
  kp           : Nat
  ki           : Nat
  kd           : Nat
  rateMin      : Nat
  rateMax      : Nat
  minSamples   : Nat
  staleLimit   : Nat
  sampleSum    : Int
  sampleCount  : Nat
  staleRun     : Nat
  e1           : Int
  e2           : Int
  u            : Int
  primed       : Bool
  causeStale   : Bool
  causeLease   : Bool
  source       : Source
  rate         : Nat
  deriving DecidableEq, Repr

/-- A zone monitor's mode (R124). -/
inductive MonMode where
  | off | warn | cycle | latched
  deriving DecidableEq, Repr

/-- R124. -/
inductive WarnLevel where
  | none | low | high
  deriving DecidableEq, Repr

/-- A zone monitor record (R124). `tripped` is the trip state TRIPPED. -/
structure Monitor where
  mode       : MonMode
  warnLow    : Int
  warnHigh   : Int
  shutdown   : Int
  hysteresis : Nat
  deglitch   : Nat
  warnLevel  : WarnLevel
  tripped    : Bool
  overRun    : Nat
  deriving DecidableEq, Repr

/-- The settings and control state of a zone (R55): account settings (R56), hold policy (R78), control record,
monitor record, and the last period average handed to the indicator (R174). -/
structure ZoneRec where
  ceiling     : Nat
  readWeight  : Nat
  writeWeight : Nat
  holdLimit   : Nat
  policy      : Policy
  control     : Control
  monitor     : Monitor
  lastAverage : Option Int
  deriving DecidableEq, Repr

/-- A sensor channel record (R104). -/
structure Channel where
  enabled    : Bool
  divisor    : Nat
  offset     : Int
  lastSample : Int
  lastValid  : Bool
  fault      : Bool
  deriving DecidableEq, Repr

/-- The conversion in progress: its channel, the offset taken at its start, and whether a disable was taken during it
(R106, R107). -/
structure Conversion where
  channel : ChanIx
  offset  : Int
  discard : Bool
  deriving DecidableEq, Repr

/-- R134. -/
inductive RailMode where
  | off | auto | latched
  deriving DecidableEq, Repr

/-- The rail state (R134). `left` is what is left of the filter time in use, in microseconds. -/
inductive RailState where
  | idle | good
  | filtering (left : Nat)
  | lost | recoveredLatched
  deriving DecidableEq, Repr

/-- R138. -/
inductive SurgeMode where
  | off | cycle | latched
  deriving DecidableEq, Repr

/-- R138. -/
inductive SurgeFilter where
  | none | us1 | us4 | us16
  deriving DecidableEq, Repr

/-- The surge state (R138). `left` is what is left of the filter time in use, in microseconds. -/
inductive SurgeState where
  | idle | armed
  | filtering (left : Nat)
  | tripped
  deriving DecidableEq, Repr

/-- R143. -/
inductive LeaseState where
  | stopped | waiting | openWindow | violated
  deriving DecidableEq, Repr

/-- R143. -/
inductive LeaseResponse where
  | report | fallback
  deriving DecidableEq, Repr

/-- R143. -/
inductive ViolationKind where
  | none | early | late
  deriving DecidableEq, Repr

/-- The lease record (R143). `timer` counts milliseconds, `micros` the microseconds of the running one. -/
structure Lease where
  openTime  : Nat
  closeTime : Nat
  response  : LeaseResponse
  state     : LeaseState
  timer     : Nat
  micros    : Nat
  kind      : ViolationKind
  deriving DecidableEq, Repr

/-- The indicator source (R174). -/
inductive IndicatorSource where
  | off
  | zoneRate (z : ZoneIx)
  | zoneTemp (z : ZoneIx)
  | occupancy
  deriving DecidableEq, Repr

/-- A duty, as the fraction `num / den` of a repetition period (R174). -/
structure Duty where
  num : Nat
  den : Nat
  deriving DecidableEq, Repr

/-- The indicator output (R174, R175). `duty` is the duty in effect. -/
structure Indicator where
  source   : IndicatorSource
  blanking : Nat
  duty     : Duty
  deriving DecidableEq, Repr

/-- The snapshot record (R173). `zone` is `none` until the first SNAPSHOT. -/
structure Snapshot where
  zone        : Option ZoneIx
  counters    : ZoneCounters
  longestHold : Nat
  deriving DecidableEq, Repr

/-- The control side: configuration, monitors, timers, pins, governor. -/
structure Ctl where
  governor        : Governor
  /-- R30 -/
  quotas          : Both Nat
  /-- microseconds (R60) -/
  refillPeriod    : Nat
  /-- R111 -/
  controlDivisor  : Nat
  /-- microseconds since the refill timer's last expiry or restart (R60) -/
  refillElapsed   : Nat
  /-- microseconds since the control timer's last expiry or restart (R111) -/
  controlElapsed  : Nat
  /-- the UNGOVERNED hold limit (R78) -/
  ungovernedLimit : Nat
  /-- the fence scope is ALL (R124) -/
  scopeAll        : Bool
  windows         : Vector Window 16
  zones           : Vector ZoneRec 8
  channels        : Vector Channel 8
  /-- the scan round counter (R106) -/
  scanRound       : BitVec 8
  /-- `none` during an empty round -/
  conversion      : Option Conversion
  railMode        : RailMode
  /-- microseconds (R134) -/
  railFilter      : Nat
  railState       : RailState
  surgeMode       : SurgeMode
  surgeFilter     : SurgeFilter
  surgeState      : SurgeState
  lease           : Lease
  /-- R169 -/
  eventMask       : BitVec 16
  indicator       : Indicator
  snapshot        : Snapshot
  /-- RESET_N is asserted (low) -/
  resetAsserted   : Bool
  /-- RAILGOOD is high -/
  railGood        : Bool
  /-- SURGE is asserted (high) -/
  surgeAsserted   : Bool
  deriving DecidableEq, Repr

/-! ### The management link (Chapter 10) -/

/-- Status codes of section 10.1. -/
inductive Status where
  | done | notFrozen | invalid | busy | conditionPresent | frameError | unknown
  deriving DecidableEq, Repr

/-- The object the pointer stands at: a class and an index that exists in it (R163). -/
inductive ObjRef where
  | global
  | zone (z : ZoneIx)
  | window (w : WinIx)
  | channel (c : ChanIx)
  | slot (i : SlotIx)
  | snapshot
  deriving DecidableEq, Repr

/-- The link's own state. -/
structure Link where
  /-- the pointer's class and index (R163) -/
  object        : ObjRef
  /-- the pointer's field (R163) -/
  field         : BitVec 8
  /-- the pending result's status (R157) -/
  status        : Status
  /-- the pending result's value (R157) -/
  value         : Word
  /-- R157 -/
  frameCount    : BitVec 4
  /-- CS_N is asserted (low) -/
  csAsserted    : Bool
  /-- the link waits for the release of a CS_N asserted when power-on reset ended (R176) -/
  awaitRelease  : Bool
  /-- the outbound bits of the frame in progress, fixed at its assertion (R158) -/
  outbound      : Option (BitVec 32)
  /-- global counter (R159, R172) -/
  frameErrors   : Counter
  deriving DecidableEq, Repr

/-! ### The whole machine -/

/-- The machine. -/
structure State where
  traffic   : Traffic
  ctl       : Ctl
  link      : Link
  /-- the model's own: numbers the microseconds in which events fell due, for `Config.freeRank` (log entry 4) -/
  freeCount : Nat
  /-- the model's own: the expiries that the clock brought due in the last microsecond and that have not been taken, as
  their commands (log entry 3) -/
  due       : List Instr
  /-- the commands that wait, first in, first out -/
  pending   : List Instr
  deriving DecidableEq, Repr

/-- Reasons a step stops with a fault. The block has none: its rules give every command an outcome. -/
inductive Fault where
  deriving DecidableEq, Repr

/-- Reasons a step refuses a command. -/
inductive Refusal where
  /-- Raised by `exec`'s arm of a command that has no meaning yet: none at present. Safe: the model stops. -/
  | notModelled (mnemonic : String)
  /-- Raised by the meanings of REQUEST_OFFER, FRAME_ERROR and UNKNOWN on a term that spells no command of the part
  (`Instr.wellFormed` is false). Safe: no such command can reach the hardware (log entry 20). -/
  | illFormed
  deriving DecidableEq, Repr

/-! ### Power-on values -/

/-- R1. -/
def Slot.powerOn : Slot :=
  { state := .free, port := .a, id := 0, dir := .read, beatAddr := 0, length := 1, window := none, zone := some 0,
    cost := 0, paid := false, forced := false }

/-- R171. -/
def ZoneCounters.zero : ZoneCounters :=
  { admittedRequests := 0, admittedBeats := 0, heldRequests := 0, expired := 0, forced := 0, fencedAnswers := 0,
    refusedAnswers := 0, memoryErrors := 0 }

/-- R56, R88, R171. -/
def Account.powerOn : Account := { credit := Config.ceiling, longestHold := 0, counters := .zero }

/-- R24, R35, R32, R91, R168, R172; the ports' standing offers are none (log entry 11). -/
def Traffic.powerOn : Traffic :=
  { slots := Vector.replicate 64 .powerOn, order := [], ready := [], pool := Vector.replicate 64 [],
    offers := { a := none, b := none }, nextWinner := .a, memOffer := none, memChannel := none, memBacklog := [],
    resps := { a := none, b := none }, accounts := Vector.replicate 8 .powerOn, flags := 0, intakeStalls := 0,
    orphans := 0 }

/-- R44. -/
def Window.powerOn : Window :=
  { enabled := false, basePage := 0, limitPage := 0, zone := some 0, attr := .readWrite }

/-- R110. -/
def Control.powerOn : Control :=
  { sensor := none, mode := .openLoop, openRate := 4095, fallbackRate := 256, setpoint := 170, kp := 0, ki := 0,
    kd := 0, rateMin := 0, rateMax := 4095, minSamples := 4, staleLimit := 3, sampleSum := 0, sampleCount := 0,
    staleRun := 0, e1 := 0, e2 := 0, u := 1048320, primed := false, causeStale := false, causeLease := false,
    source := .openLoop, rate := 4095 }

/-- R124. -/
def Monitor.powerOn : Monitor :=
  { mode := .off, warnLow := 190, warnHigh := 200, shutdown := 210, hysteresis := 4, deglitch := 2,
    warnLevel := .none, tripped := false, overRun := 0 }

/-- R56, R78, R110, R124, R174. -/
def ZoneRec.powerOn : ZoneRec :=
  { ceiling := Config.ceiling, readWeight := 1, writeWeight := 1, holdLimit := 255, policy := .force,
    control := .powerOn, monitor := .powerOn, lastAverage := none }

/-- R104. -/
def Channel.powerOn : Channel :=
  { enabled := false, divisor := 1, offset := 0, lastSample := 0, lastValid := false, fault := false }

/-- R143. -/
def Lease.powerOn : Lease :=
  { openTime := 100, closeTime := 1000, response := .fallback, state := .stopped, timer := 0, micros := 0,
    kind := .none }

/-- The duty 0: INDICATE held low (R174). -/
def Duty.low : Duty := { num := 0, den := 1 }

/-- R174, R175. -/
def Indicator.powerOn : Indicator := { source := .off, blanking := 0, duty := .low }

/-- R173. -/
def Snapshot.powerOn : Snapshot := { zone := none, counters := .zero, longestHold := 0 }

/-- The control side at power-on. The input levels are the model's choice (log entry 11). -/
def Ctl.powerOn : Ctl :=
  { governor := .run, quotas := { a := 40, b := 40 }, refillPeriod := Config.refillPeriod,
    controlDivisor := Config.controlDivisor, refillElapsed := 0, controlElapsed := 0, ungovernedLimit := 255,
    scopeAll := false, windows := Vector.replicate 16 .powerOn, zones := Vector.replicate 8 .powerOn,
    channels := Vector.replicate 8 .powerOn, scanRound := 0, conversion := none, railMode := .off, railFilter := 20,
    railState := .idle, surgeMode := .off, surgeFilter := .none, surgeState := .idle, lease := .powerOn,
    eventMask := 0, indicator := .powerOn, snapshot := .powerOn, resetAsserted := false, railGood := true,
    surgeAsserted := false }

/-- R157, R163, R172; CS_N is released (log entry 11). -/
def Link.powerOn : Link :=
  { object := .global, field := 0, status := .done, value := 0, frameCount := 0, csAsserted := false,
    awaitRelease := false, outbound := none, frameErrors := 0 }

/-- The machine right after power-on reset (R24, R176). -/
def State.reset : State :=
  { traffic := .powerOn, ctl := .powerOn, link := .powerOn, freeCount := 0, due := [], pending := [] }

end Sys2Proof.Machine
end

