-- ==== Sys2Proof/Machine/Access.lean ====
section
/-! DEFINITION. Accessors of the state and the views the spec names: held list, key chains, occupancies, pool count
(R3 to R9, R23, R35; log entry 19), active holds (R19), fences (R129). -/

namespace Sys2Proof.Machine

/-! ### Plain accessors -/

/-- A vector with one entry replaced. -/
def put {α : Type} {n : Nat} (v : Vector α n) (i : Fin n) (x : α) : Vector α n := v.set i.val x i.isLt

/-- A vector with one entry changed. -/
def adjust {α : Type} {n : Nat} (v : Vector α n) (i : Fin n) (f : α → α) : Vector α n := put v i (f v[i])

/-- The value of a port. -/
def Both.get {α : Type} (b : Both α) : Port → α
  | .a => b.a
  | .b => b.b

/-- The pair with the value of one port replaced. -/
def Both.set {α : Type} (b : Both α) (p : Port) (x : α) : Both α :=
  match p with
  | .a => { b with a := x }
  | .b => { b with b := x }

/-- The other requester port. -/
def otherPort : Port → Port
  | .a => .b
  | .b => .a

/-- `x` brought into `lo..hi`. -/
def clamp (lo hi x : Int) : Int := if x < lo then lo else if hi < x then hi else x

namespace SlotState

def isFree : SlotState → Bool
  | .free => true
  | _ => false

def isHeld : SlotState → Bool
  | .held _ _ => true
  | _ => false

def isReady : SlotState → Bool
  | .ready => true
  | _ => false

def isForwarded : SlotState → Bool
  | .forwarded _ => true
  | _ => false

def isAnswering : SlotState → Bool
  | .answering _ => true
  | _ => false

end SlotState

/-- A slot's key (R1). -/
def Slot.key (s : Slot) : Key := { port := s.port, id := s.id }

/-- The byte address of a slot or request: its four lowest bits are zero (R26). -/
def byteAddr (a : BitVec 36) : BitVec 40 := a ++ 0#4

/-- The page of an address: the byte address divided by 4096 (R45). -/
def pageOf (a : BitVec 36) : BitVec 28 := a.extractLsb' 8 28

namespace Traffic

def slot (t : Traffic) (i : SlotIx) : Slot := t.slots[i]

def setSlot (t : Traffic) (i : SlotIx) (s : Slot) : Traffic := { t with slots := put t.slots i s }

def account (t : Traffic) (z : ZoneIx) : Account := t.accounts[z]

def setAccount (t : Traffic) (z : ZoneIx) (a : Account) : Traffic := { t with accounts := put t.accounts z a }

def credit (t : Traffic) (z : ZoneIx) : Int := (t.account z).credit

def setCredit (t : Traffic) (z : ZoneIx) (x : Int) : Traffic :=
  t.setAccount z { t.account z with credit := x }

/-! ### Views of the table -/

/-- The held list: the HELD slots in acceptance order (R6). -/
def heldList (t : Traffic) : List SlotIx := t.order.filter fun i => (t.slot i).state.isHeld

/-- The key chain of a key: its non-FREE slots in acceptance order (R8). -/
def chain (t : Traffic) (k : Key) : List SlotIx := t.order.filter fun i => decide ((t.slot i).key = k)

/-- Slot `i` is the head of its key chain (R8). -/
def isHead (t : Traffic) (i : SlotIx) : Bool := (t.chain (t.slot i).key).head? == some i

/-- The forwarded set (R9), in acceptance order. -/
def forwardedSet (t : Traffic) : List SlotIx := t.order.filter fun i => (t.slot i).state.isForwarded

/-- The answering set (R9), in acceptance order. -/
def answeringSet (t : Traffic) : List SlotIx := t.order.filter fun i => (t.slot i).state.isAnswering

/-- Total occupancy: the number of non-FREE slots (R23). -/
def occupancy (t : Traffic) : Nat := t.slots.toList.countP fun s => !s.state.isFree

/-- A port's occupancy (R23). -/
def portOccupancy (t : Traffic) (p : Port) : Nat :=
  t.slots.toList.countP fun s => !s.state.isFree && decide (s.port = p)

/-- The count of READY and FORWARDED slots (R7). -/
def inFlight (t : Traffic) : Nat := t.slots.toList.countP fun s => s.state.isReady || s.state.isForwarded

/-- Pool beats in use (R35). -/
def poolInUse (t : Traffic) : Nat := (t.pool.toList.map List.length).sum

/-- The lowest-numbered FREE slot (R1). -/
def firstFree (t : Traffic) : Option SlotIx := (List.finRange 64).find? fun i => (t.slot i).state.isFree

/-- A zone's candidate: its oldest unpaid HELD slot (R64). -/
def candidate (t : Traffic) (z : ZoneIx) : Option SlotIx :=
  t.order.find? fun i => (t.slot i).state.isHeld && decide ((t.slot i).zone = some z) && !(t.slot i).paid

/-- Some slot of the key is HELD. -/
def keyHeld (t : Traffic) (k : Key) : Bool :=
  t.order.any fun i => (t.slot i).state.isHeld && decide ((t.slot i).key = k)

end Traffic

/-! ### Views of the control side -/

namespace Ctl

/-- FREEZE is active (R19). -/
def freezeActive (c : Ctl) : Bool :=
  match c.governor with
  | .run => false
  | .draining | .frozen => true

/-- The rail hold is active (R19, R134). -/
def railActive (c : Ctl) : Bool :=
  match c.railState with
  | .lost | .recoveredLatched => true
  | .idle | .good | .filtering _ => false

/-- The surge hold is active (R19, R138). -/
def surgeActive (c : Ctl) : Bool :=
  match c.surgeState with
  | .tripped => true
  | .idle | .armed | .filtering _ => false

end Ctl

/-- A zone monitor's fencing trip (R129). -/
def Monitor.fencingTrip (m : Monitor) : Bool :=
  m.tripped && match m.mode with
    | .cycle | .latched => true
    | .off | .warn => false

namespace Ctl

/-- Zone `z` is fenced (R129). -/
def fenced (c : Ctl) (z : ZoneIx) : Bool :=
  c.zones[z].monitor.fencingTrip ||
    (c.scopeAll && (List.finRange 8).any fun y => c.zones[y].monitor.fencingTrip)

/-- Some zone is fenced (R158). -/
def anyFenced (c : Ctl) : Bool := (List.finRange 8).any c.fenced

/-- The zone setting of a slot's zone, its hold limit (R78, R79). -/
def limitOf (c : Ctl) : ZoneRef → Nat
  | some z => c.zones[z].holdLimit
  | none => c.ungovernedLimit

/-- The expiry policy of a slot's zone; UNGOVERNED slots expire under ABORT (R78). -/
def policyOf (c : Ctl) : ZoneRef → Policy
  | some z => c.zones[z].policy
  | none => .abort

end Ctl

end Sys2Proof.Machine
end

