-- ==== Sys2Proof/Machine/Flags.lean ====
section
/-! DEFINITION. Event flags, ALERT_N, the counters, and the summary bits of a frame (R158, R168, R169, R171, R172). -/

namespace Sys2Proof.Machine

/-- The 16 event flags (section 10.4). -/
inductive Event where
  | zoneWarn | zoneShutdown | fenceLifted | zoneStale | sensorFault | holdExpired | holdForced | railLoss
  | railReturn | surge | leaseViolation | frozen | tableFull | orphanResponse | frameError | refusedAccess
  deriving DecidableEq, Repr

/-- A flag's bit position (section 10.4). -/
def Event.bit : Event → Nat
  | .zoneWarn => 0
  | .zoneShutdown => 1
  | .fenceLifted => 2
  | .zoneStale => 3
  | .sensorFault => 4
  | .holdExpired => 5
  | .holdForced => 6
  | .railLoss => 7
  | .railReturn => 8
  | .surge => 9
  | .leaseViolation => 10
  | .frozen => 11
  | .tableFull => 12
  | .orphanResponse => 13
  | .frameError => 14
  | .refusedAccess => 15

/-- The word with the flag's bit alone. -/
def Event.mask (e : Event) : BitVec 16 := BitVec.twoPow 16 e.bit

/-- A 32-bit counter that stops at 4294967295 (R171, R172). -/
def satAdd (c : Counter) (n : Nat) : Counter := BitVec.ofNat 32 (min (c.toNat + n) 4294967295)

namespace Traffic

/-- Raising a flag sets it, whatever its mask bit (R168). -/
def raise (e : Event) (t : Traffic) : Traffic := { t with flags := t.flags ||| e.mask }

/-- Raise a flag on a condition. -/
def raiseIf (b : Bool) (e : Event) (t : Traffic) : Traffic := if b then t.raise e else t

/-- Change the counters of a zone; an UNGOVERNED slot counts in no zone (R171). -/
def count (zone : ZoneRef) (f : ZoneCounters → ZoneCounters) (t : Traffic) : Traffic :=
  match zone with
  | some z => t.setAccount z { t.account z with counters := f (t.account z).counters }
  | none => t

end Traffic

/-- Memory took a request of `length` beats (R171). -/
def ZoneCounters.taken (length : Nat) (k : ZoneCounters) : ZoneCounters :=
  { k with admittedRequests := satAdd k.admittedRequests 1, admittedBeats := satAdd k.admittedBeats length }

def ZoneCounters.held (k : ZoneCounters) : ZoneCounters := { k with heldRequests := satAdd k.heldRequests 1 }

def ZoneCounters.force (k : ZoneCounters) : ZoneCounters := { k with forced := satAdd k.forced 1 }

def ZoneCounters.memError (k : ZoneCounters) : ZoneCounters := { k with memoryErrors := satAdd k.memoryErrors 1 }

/-- The counter of an answer (R171). -/
def ZoneCounters.answer (a : AnswerStatus) (k : ZoneCounters) : ZoneCounters :=
  match a with
  | .fenced => { k with fencedAnswers := satAdd k.fencedAnswers 1 }
  | .expired => { k with expired := satAdd k.expired 1 }
  | .refused => { k with refusedAnswers := satAdd k.refusedAnswers 1 }

/-- ALERT_N is driven low: some set flag has its mask bit set (R169). -/
def State.alertLow (s : State) : Bool := (s.traffic.flags &&& s.ctl.eventMask) != 0#16

/-- The governor state is DRAINING or FROZEN, as bit 1 of the summary shows it (R158). -/
def Ctl.notRun (c : Ctl) : Bool := c.freezeActive

/-- The four summary bits of a frame: alert, fence, governor, hold (R156, R158). -/
def State.summary (s : State) : BitVec 4 :=
  BitVec.ofBool s.alertLow ++ BitVec.ofBool s.ctl.anyFenced ++ BitVec.ofBool s.ctl.notRun ++
    BitVec.ofBool (s.ctl.railActive || s.ctl.surgeActive)

end Sys2Proof.Machine
end

