-- ==== Sys2Proof/Machine/Ops.lean ====
section
/-! DEFINITION. The operations of the transaction path that several commands share: leaving the held list and releases
(R6, R12, R17), payment, refund and forcing (R62 to R70), answering (R13), creation and classification (R10, R33, R34),
intake (R30 to R32), offers to memory and to the requesters (R37, R92), the table's reaction to fences and global holds
(R20, R21, R129, R130), and the settling of an event. -/

namespace Sys2Proof.Machine

/-- A set with no reason in it (R11). -/
def Reasons.isEmpty (r : Reasons) : Bool := !(r.budget || r.order || r.freeze || r.rail || r.surge)

/-- The set holding BUDGET alone (R80). -/
def Reasons.budgetOnly : Reasons := { budget := true, order := false, freeze := false, rail := false, surge := false }

/-- The three global holds (R19). -/
inductive Hold where
  | freeze | rail | surge
  deriving DecidableEq, Repr

/-- Put a global hold's reason into a set or take it out. -/
def Reasons.put (h : Hold) (b : Bool) (r : Reasons) : Reasons :=
  match h with
  | .freeze => { r with freeze := b }
  | .rail => { r with rail := b }
  | .surge => { r with surge := b }

/-- A hold is active (R19). -/
def Ctl.holdActive (c : Ctl) : Hold → Bool
  | .freeze => c.freezeActive
  | .rail => c.railActive
  | .surge => c.surgeActive

/-- Rewrite the reasons of a slot if it is HELD, from its record. -/
def Slot.mapReasons (f : Slot → Reasons → Reasons) (s : Slot) : Slot :=
  match s.state with
  | .held r age => { s with state := .held (f s r) age }
  | .free | .ready | .forwarded _ | .answering _ => s

namespace Traffic

/-- Rewrite every slot record. -/
def mapSlots (f : Slot → Slot) (t : Traffic) : Traffic := { t with slots := t.slots.map f }

/-! ### Leaving the held list -/

/-- The longest-hold record of the slot's zone takes the age of a slot leaving the held list (R88). -/
def noteAge (zone : ZoneRef) (age : Nat) (t : Traffic) : Traffic :=
  match zone with
  | some z => t.setAccount z { t.account z with longestHold := max (t.account z).longestHold age }
  | none => t

/-- A HELD slot is released: it becomes READY (R12). `flushReady` puts it into the ready queue. -/
def release (i : SlotIx) (age : Nat) (t : Traffic) : Traffic :=
  (t.noteAge (t.slot i).zone age).setSlot i { t.slot i with state := .ready }

/-- The re-evaluation of ORDER and the releases of one event, from the oldest slot of the list to the youngest.
`ks` are the keys of the HELD slots passed so far: a slot keeps ORDER only behind an older HELD slot of its key (R17),
and a slot left with no reason is released (R12). One pass settles all consequences, since ORDER looks only at older
slots (log entry 14). -/
def sweepFrom : List SlotIx → List Key → Traffic → Traffic
  | [], _, t => t
  | i :: is, ks, t =>
    match (t.slot i).state with
    | .held r age =>
      if ({ r with order := r.order && ks.contains (t.slot i).key } : Reasons).isEmpty then
        sweepFrom is ks (t.release i age)
      else
        sweepFrom is ((t.slot i).key :: ks)
          (t.setSlot i
            { t.slot i with
              state := .held { r with order := r.order && ks.contains (t.slot i).key } age })
    | .free | .ready | .forwarded _ | .answering _ => sweepFrom is ks t

/-- `sweepFrom` over the whole table. -/
def sweep (t : Traffic) : Traffic := sweepFrom t.order [] t

/-- The slots that became READY in an event join the tail of the ready queue in acceptance order, which is held-list
order (R7, R12). -/
def flushReady (t : Traffic) : Traffic :=
  { t with ready := t.ready ++ t.order.filter fun i => (t.slot i).state.isReady && !t.ready.contains i }

/-! ### The credit unit -/

/-- Pay a HELD slot: the credit falls by the cost, the slot is paid and loses BUDGET (R63, R64). -/
def pay (i : SlotIx) (z : ZoneIx) (r : Reasons) (age : Nat) (t : Traffic) : Traffic :=
  (t.setCredit z (t.credit z - (t.slot i).cost)).setSlot i
    { t.slot i with state := .held { r with budget := false } age, paid := true }

/-- The run of payments of one attempt in zone `z`, over the rest of the acceptance order (R64). -/
def payRun (z : ZoneIx) : List SlotIx → Traffic → Traffic
  | [], t => t
  | i :: is, t =>
    match (t.slot i).state with
    | .held r age =>
      if (t.slot i).zone = some z ∧ (t.slot i).paid = false then
        if ((t.slot i).cost : Int) ≤ t.credit z then payRun z is (t.pay i z r age) else t
      else payRun z is t
    | .free | .ready | .forwarded _ | .answering _ => payRun z is t

/-- A payment attempt in zone `z` (R64), before the releases it causes. -/
def payAttempt (z : ZoneIx) (t : Traffic) : Traffic := payRun z t.order t

/-- One attempt in each zone of the list, and the releases they cause (R64, R65). -/
def payAttempts (zs : List ZoneIx) (t : Traffic) : Traffic :=
  (zs.foldl (fun t z => t.payAttempt z) t).sweep

/-- Refund a cost to a zone, up to its ceiling (R68, R69). -/
def refund (c : Ctl) (zone : ZoneRef) (cost : Nat) (t : Traffic) : Traffic :=
  match zone with
  | some z => t.setCredit z (min (t.credit z + cost) c.zones[z].ceiling)
  | none => t

/-! ### Answering -/

/-- Give a slot's pool beats back (R35). -/
def freeBeats (i : SlotIx) (t : Traffic) : Traffic := { t with pool := put t.pool i [] }

/-- The counter and the flag of an answer given to a slot of `zone` (R33, R82, R153, R171). -/
def noteAnswer (a : AnswerStatus) (zone : ZoneRef) (t : Traffic) : Traffic :=
  match a with
  | .fenced => t.count zone (ZoneCounters.answer .fenced)
  | .expired => (t.count zone (ZoneCounters.answer .expired)).raise .holdExpired
  | .refused => (t.count zone (ZoneCounters.answer .refused)).raise .refusedAccess

/-- Refund a slot that is paid (R13, R68). -/
def refundIfPaid (c : Ctl) (i : SlotIx) (t : Traffic) : Traffic :=
  if (t.slot i).paid then t.refund c (t.slot i).zone (t.slot i).cost else t

/-- Answer a HELD slot (R13): it leaves the held list, is refunded if paid and marked unpaid, and its beats are
released. A slot that is no longer HELD is left as it stands (R16). -/
def answer (c : Ctl) (a : AnswerStatus) (t : Traffic) (i : SlotIx) : Traffic :=
  match (t.slot i).state with
  | .held _ age =>
    ((((t.noteAge (t.slot i).zone age).refundIfPaid c i).setSlot i
      { t.slot i with state := .answering a, paid := false }).freeBeats i).noteAnswer a (t.slot i).zone
  | .free | .ready | .forwarded _ | .answering _ => t

/-- The zones of the listed slots, of which `p` holds, in zone order: where an event's payment attempts are made
(R65, log entry 15). -/
def zonesOf (is : List SlotIx) (p : Slot → Bool) (t : Traffic) : List ZoneIx :=
  (List.finRange 8).filter fun z => is.any fun i => decide ((t.slot i).zone = some z) && p (t.slot i)

/-! ### Classification and creation (Chapters 2 and 3) -/

end Traffic

/-- What the window map returns (R45, R46). -/
structure Lookup where
  window : Option WinIx
  zone   : ZoneRef
  attr   : Attribute
  deriving DecidableEq, Repr

/-- A window matches a page (R45). -/
def Window.covers (w : Window) (page : BitVec 28) : Bool :=
  w.enabled && decide (w.basePage.toNat ≤ page.toNat) && decide (page.toNat ≤ w.limitPage.toNat)

/-- The lookup of a page: the lowest-numbered matching window, or the result for an unmapped page (R45, R46). -/
def Ctl.lookup (c : Ctl) (page : BitVec 28) : Lookup :=
  match (List.finRange 16).find? fun w => c.windows[w].covers page with
  | some w => { window := some w, zone := c.windows[w].zone, attr := c.windows[w].attr }
  | none => { window := none, zone := some 0, attr := .readWrite }

/-- The attribute allows the direction (R33). -/
def Attribute.allows : Attribute → Dir → Bool
  | .readWrite, _ => true
  | .readOnly, .read => true
  | .readOnly, .write => false
  | .blocked, _ => false

/-- The cost of a request of `length` beats in a zone (R57). -/
def Ctl.cost (c : Ctl) (zone : ZoneRef) (dir : Dir) (length : Nat) : Nat :=
  match zone with
  | some z => match dir with
    | .read => length * c.zones[z].readWeight
    | .write => length * c.zones[z].writeWeight
  | none => 0

/-- A governed zone is fenced; UNGOVERNED is never fenced (R33, R129). -/
def Ctl.zoneFenced (c : Ctl) : ZoneRef → Bool
  | some z => c.fenced z
  | none => false

namespace Traffic

/-- The answer that classification gives, if it gives one (R33). -/
def refusal (c : Ctl) (l : Lookup) (dir : Dir) : Option AnswerStatus :=
  if !l.attr.allows dir then some .refused
  else if c.zoneFenced l.zone then some .fenced
  else none

/-- The credit unit pays a new request at intake (R62). -/
def paysAtIntake (t : Traffic) (zone : ZoneRef) (cost : Nat) : Bool :=
  match zone with
  | some z => (t.candidate z).isNone && decide ((cost : Int) ≤ t.credit z)
  | none => true

/-- The hold reasons collected for a new request (R34). -/
def collect (c : Ctl) (t : Traffic) (k : Key) (paid : Bool) : Reasons :=
  { budget := !paid, order := t.keyHeld k, freeze := c.freezeActive, rail := c.railActive, surge := c.surgeActive }

/-- Lower the zone's credit by a cost paid at intake (R62). -/
def charge (zone : ZoneRef) (cost : Nat) (t : Traffic) : Traffic :=
  match zone with
  | some z => t.setCredit z (t.credit z - cost)
  | none => t

/-- Place a new slot record: in slot `i`, at the young end of the acceptance order, with its beats in the pool (R10). -/
def place (i : SlotIx) (s : Slot) (beats : List WriteBeat) (t : Traffic) : Traffic :=
  { t.setSlot i s with order := t.order ++ [i], pool := put t.pool i beats }

/-- The record of a slot created from a request (R10). -/
def newSlot (p : Port) (r : Request) (l : Lookup) (cost : Nat) (paid : Bool) (st : SlotState) : Slot :=
  { state := st, port := p, id := r.id, dir := r.dir, beatAddr := r.beatAddr, length := r.length, window := l.window,
    zone := l.zone, cost := cost, paid := paid, forced := false }

/-- Create a slot that classification does not answer: paid or not, READY or HELD (R34, R62). -/
def createLive (c : Ctl) (p : Port) (r : Request) (l : Lookup) (i : SlotIx) (t : Traffic) : Traffic :=
  let cost := c.cost l.zone r.dir r.length
  let paid := t.paysAtIntake l.zone cost
  let reasons := collect c t { port := p, id := r.id } paid
  let t := if paid then t.charge l.zone cost else t
  if reasons.isEmpty then
    let t := t.place i (newSlot p r l cost paid .ready) r.data
    { t with ready := t.ready ++ [i] }
  else
    (t.place i (newSlot p r l cost paid (.held reasons 0)) r.data).count l.zone ZoneCounters.held

/-- Classify a request and create its slot in slot `i` (R33, R34). -/
def create (c : Ctl) (p : Port) (r : Request) (i : SlotIx) (t : Traffic) : Traffic :=
  let l := c.lookup (pageOf r.beatAddr)
  match refusal c l r.dir with
  | some a => (t.place i (newSlot p r l 0 false (.answering a)) []).noteAnswer a l.zone
  | none => t.createLive c p r l i

/-! ### Intake (R30 to R32) -/

/-- The pool beats a request needs (R30). -/
def beatsNeeded (r : Request) : Nat :=
  match r.dir with
  | .write => r.length
  | .read => 0

/-- The pool has room for a request: a READ needs none (R30). -/
def poolFits (t : Traffic) (r : Request) : Bool :=
  match r.dir with
  | .write => decide (t.poolInUse + r.length ≤ Config.poolBeats)
  | .read => true

/-- A request can be taken at port `p` (R30). -/
def canTake (c : Ctl) (t : Traffic) (p : Port) (r : Request) : Bool :=
  decide (t.occupancy < 64) && decide (t.portOccupancy p < c.quotas.get p) && t.poolFits r && !c.resetAsserted

/-- The port's standing offer can be taken. -/
def takeable (c : Ctl) (t : Traffic) (p : Port) : Bool :=
  match t.offers.get p with
  | some o => canTake c t p o.req
  | none => false

/-- Take the port's standing offer and create its slot (R33). -/
def take (c : Ctl) (p : Port) (t : Traffic) : Traffic :=
  match t.offers.get p, t.firstFree with
  | some o, some i => { t with offers := t.offers.set p none }.create c p o.req i
  | some _, none | none, some _ | none, none => t

/-- A failed examination of the port's offer: counted once per offer, and TABLE_FULL if no slot is FREE (R31). -/
def failExam (p : Port) (t : Traffic) : Traffic :=
  match t.offers.get p with
  | some o =>
    { t with
      offers := t.offers.set p (some { o with counted := true })
      intakeStalls := if o.counted then t.intakeStalls else satAdd t.intakeStalls 1 }.raiseIf
      t.firstFree.isNone .tableFull
  | none => t

/-- The examination of one port's offer (R31). While RESET_N is asserted offers are not examined. -/
def examineOne (c : Ctl) (p : Port) (t : Traffic) : Traffic :=
  if c.resetAsserted then t
  else if t.takeable c p then t.take c p
  else t.failExam p

/-- Both ports' offers can be taken together (R32). -/
def together (c : Ctl) (t : Traffic) : Bool :=
  match t.offers.a, t.offers.b with
  | some x, some y =>
    decide (t.occupancy + 2 ≤ 64) &&
      decide (t.poolInUse + beatsNeeded x.req + beatsNeeded y.req ≤ Config.poolBeats) &&
      t.takeable c .a && t.takeable c .b
  | some _, none | none, some _ | none, none => false

/-- The examination of both ports' offers at one event, with the intake arbiter (R31, R32; log entry 24). -/
def examineBoth (c : Ctl) (t : Traffic) : Traffic :=
  if c.resetAsserted then t
  else if t.takeable c .a && t.takeable c .b then
    let w := t.nextWinner
    if t.together c then (t.take c w).take c (otherPort w)
    else { t.take c w with nextWinner := otherPort w }.examineOne c (otherPort w)
  else if t.takeable c .a then (t.failExam .b).take c .a
  else if t.takeable c .b then (t.failExam .a).take c .b
  else (t.failExam .a).failExam .b

/-! ### The memory port (R37 to R41) -/

/-- The memory port offers the head of the ready queue when it may (R37, R38). -/
def offerMemory (c : Ctl) (t : Traffic) : Traffic :=
  match t.memOffer, t.ready with
  | none, i :: _ => if c.railActive || c.resetAsserted then t else { t with memOffer := some i }
  | none, [] | some _, _ => t

/-- Withdraw the offer that memory has not taken (R38). -/
def withdrawMemory (t : Traffic) : Traffic := { t with memOffer := none }

/-- The key of a downstream ID (R29). -/
def keyOfDid (d : Fin 32) : Key :=
  if h : d.val < 16 then { port := .a, id := ⟨d.val, h⟩ }
  else { port := .b, id := ⟨d.val - 16, by omega⟩ }

/-- The downstream ID of a key (R29). -/
def didOfKey (k : Key) : Fin 32 :=
  match k.port with
  | .a => ⟨k.id.val, by omega⟩
  | .b => ⟨k.id.val + 16, by omega⟩

/-- The oldest FORWARDED slot of a key (R9, R39). -/
def oldestForwarded (t : Traffic) (k : Key) : Option SlotIx :=
  (t.chain k).find? fun i => (t.slot i).state.isForwarded

/-- An orphan response is taken, discarded and counted (R41). -/
def orphan (t : Traffic) : Traffic := { t with orphans := satAdd t.orphans 1 }.raise .orphanResponse

/-- Match a memory response to a slot: it stays on the channel and the slot's response present is yes (R39). -/
def matchResponse (m : MemResponse) (i : SlotIx) (t : Traffic) : Traffic :=
  { t.setSlot i { t.slot i with state := .forwarded true } with memChannel := some { resp := m, slot := i } }

/-- The memory port examines the responses memory offers, in order, until one stays on the channel (R39, R41). -/
def pump : List MemResponse → Traffic → Traffic
  | [], t => { t with memBacklog := [] }
  | m :: ms, t =>
    match t.oldestForwarded (keyOfDid m.did) with
    | some i => { t.matchResponse m i with memBacklog := ms }
    | none => pump ms t.orphan

/-! ### The answer unit (R92, R98, R99) -/

end Traffic

/-- `n` beats, zeros where `data` has too few (R40). -/
def padBeats (n : Nat) (data : List Beat) : List Beat := (data ++ List.replicate (n - data.length) 0).take n

/-- The response delivered for a FORWARDED slot (R40, R99). -/
def Slot.memoryAnswer (s : Slot) (m : MemResponse) : Response :=
  match s.dir with
  | .read =>
    { id := s.id
      status := if m.status = .okay ∧ s.length ≤ m.data.length then .okay else .memError
      data := padBeats s.length m.data }
  | .write => { id := s.id, status := if m.status = .okay then .okay else .memError, data := [] }

/-- The status of a synthetic answer (R98). -/
def AnswerStatus.toStatus : AnswerStatus → RespStatus
  | .fenced => .fenced
  | .expired => .expired
  | .refused => .refused

/-- The synthetic answer of an ANSWERING slot (R98). -/
def Slot.syntheticAnswer (s : Slot) (a : AnswerStatus) : Response :=
  { id := s.id
    status := a.toStatus
    data := match s.dir with
      | .read => List.replicate s.length 0
      | .write => [] }

namespace Traffic

/-- The memory response that port `p` may offer: matched to a slot of the port that heads its chain (R92, 1). -/
def memoryChoice (t : Traffic) (p : Port) : Option RespOffer :=
  match t.memChannel with
  | some m =>
    if (t.slot m.slot).port = p ∧ t.isHead m.slot = true then
      some { slot := m.slot, kind := .memory, resp := (t.slot m.slot).memoryAnswer m.resp }
    else none
  | none => none

/-- The oldest ANSWERING chain head of port `p` (R92, 2). -/
def answerHead (t : Traffic) (p : Port) : Option SlotIx :=
  t.order.find? fun i => (t.slot i).state.isAnswering && decide ((t.slot i).port = p) && t.isHead i

/-- The synthetic answer that port `p` may offer. -/
def answerChoice (t : Traffic) (p : Port) : Option RespOffer :=
  match t.answerHead p with
  | some i =>
    match (t.slot i).state with
    | .answering a => some { slot := i, kind := .synthetic, resp := (t.slot i).syntheticAnswer a }
    | .free | .held _ _ | .ready | .forwarded _ => none
  | none => none

/-- The arbiter's choice (R92). -/
def choice (t : Traffic) (p : Port) : Option RespOffer :=
  match t.memoryChoice p with
  | some o => some o
  | none => t.answerChoice p

/-- The arbiter offers its choice once the port's channel is free; nothing while RESET_N is asserted (R43, R92). -/
def offerResponse (c : Ctl) (p : Port) (t : Traffic) : Traffic :=
  match t.resps.get p with
  | some _ => t
  | none => if c.resetAsserted then t else { t with resps := t.resps.set p (t.choice p) }

/-- Both ports' arbiters. -/
def offerResponses (c : Ctl) (t : Traffic) : Traffic := (t.offerResponse c .a).offerResponse c .b

/-! ### The end of an event -/

/-- What the event's end settles on the transaction path (log entries 9 and 23): the slots it released join the ready
queue (R12), stalled offers are examined again if it released pool beats (R31, R35), the memory port offers (R37), and
the delivery arbiters choose (R92, R102). `before` is the path before the event. -/
def settle (c : Ctl) (t before : Traffic) : Traffic :=
  let t := t.flushReady
  let t := if t.poolInUse < before.poolInUse then t.examineBoth c else t
  (t.offerMemory c).offerResponses c

/-! ### Global holds and fences on the table -/

/-- A hold begins: its reason is added to every HELD slot (R20), and the rail hold withdraws the offer to memory
(R38). -/
def beginHold (h : Hold) (t : Traffic) : Traffic :=
  let t := t.mapSlots (Slot.mapReasons fun _ r => r.put h true)
  match h with
  | .rail => t.withdrawMemory
  | .freeze | .surge => t

/-- A hold ends: its reason is removed from every HELD slot, and slots left with none are released (R21). -/
def endHold (h : Hold) (t : Traffic) : Traffic :=
  (t.mapSlots (Slot.mapReasons fun _ r => r.put h false)).sweep

/-- The table follows a hold from `c0` to `c1`. -/
def followHold (c0 c1 : Ctl) (t : Traffic) (h : Hold) : Traffic :=
  match c0.holdActive h, c1.holdActive h with
  | false, true => t.beginHold h
  | true, false => t.endHold h
  | false, false | true, true => t

/-- Answer every HELD slot of the onset zones FENCED, as the slots stood at the onset, then re-evaluate ORDER, then
make the payment attempts (R65, R130; log entry 13). -/
def fenceOnset (c : Ctl) (onset : ZoneIx → Bool) (t : Traffic) : Traffic :=
  let hit := t.heldList.filter fun i =>
    match (t.slot i).zone with
    | some z => onset z
    | none => false
  (hit.foldl (answer c .fenced) t).sweep.payAttempts (t.zonesOf hit fun _ => true)

/-- The table follows the fences from `c0` to `c1`: onset and lift (R129). -/
def followFences (c0 c1 : Ctl) (t : Traffic) : Traffic :=
  let t :=
    if (List.finRange 8).any fun z => !c0.fenced z && c1.fenced z then
      t.fenceOnset c1 fun z => !c0.fenced z && c1.fenced z
    else t
  t.raiseIf ((List.finRange 8).any fun z => c0.fenced z && !c1.fenced z) .fenceLifted

/-- The table's reaction to a change of the control side. -/
def react (c0 c1 : Ctl) (t : Traffic) : Traffic :=
  [Hold.freeze, .rail, .surge].foldl (followHold c0 c1) (t.followFences c0 c1)

end Traffic

/-- An event of the control side: the control side becomes `c`, the table reacts and settles. -/
def State.control (s : State) (c : Ctl) : State :=
  { s with ctl := c, traffic := (s.traffic.react s.ctl c).settle c s.traffic }

/-- The three events of one expiry of the refill timer (R60). -/
def refillEvents : List Instr := [.refillTick, .ageTick, .cycleBoundary]

/-- The refill timer restarts: its expiry that waits to be taken does not happen (R60). One of which an event has been
taken has happened, and its other events stay (log entry 31). -/
def withoutRefill (due : List Instr) : List Instr :=
  if refillEvents.all due.contains then due.filter fun c => !refillEvents.contains c else due

/-- The control timer restarts: the control tick that waits to be taken does not come (R111, R123). -/
def withoutControl (due : List Instr) : List Instr := due.filter fun c => decide (c ≠ .controlTick)

/-- Both timers restart, at a write of the refill period and, as at such a write, at RESET_CONFIG (R60, R74, R111). -/
def withoutTicks (due : List Instr) : List Instr := withoutControl (withoutRefill due)

/-- Raise a flag on a condition. -/
def State.raiseIf (b : Bool) (e : Event) (s : State) : State := { s with traffic := s.traffic.raiseIf b e }

/-- An event of the transaction path: `t` is the path after the event's own effect, which then settles. -/
def State.onPath (s : State) (t : Traffic) : State := { s with traffic := t.settle s.ctl s.traffic }

end Sys2Proof.Machine
end

