-- ==== Sys2Proof/Machine/Control.lean ====
section
/-! DEFINITION. The rate controller (R112 to R118), the zone monitor (R127, R128, R131), the scanner (R106) and the
indicator's duty (R174), as functions of the records they act on. -/

namespace Sys2Proof.Machine

/-! ### The rate controller -/

namespace Control

/-- `x` brought into rate min * 256 .. rate max * 256 (R114). -/
def clampU (k : Control) (x : Int) : Int := clamp (k.rateMin * 256) (k.rateMax * 256) x

/-- The rate that U gives: U divided by 256, rounded down (R114). -/
def rateOf (u : Int) : Nat := (u / 256).toNat

/-- The effective source that the causes and the configured mode call for (R117). -/
def wanted (k : Control) : Source :=
  if k.causeStale || k.causeLease then .fallback
  else match k.mode with
    | .pi => .pi
    | .openLoop => .openLoop

/-- The entry action of a new source (R117). -/
def enter (k : Control) : Source → Control
  | .pi =>
    { k with
      source := .pi
      u := k.clampU (k.rate * 256)
      rate := rateOf (k.clampU (k.rate * 256))
      primed := false }
  | .openLoop => { k with source := .openLoop, rate := k.openRate }
  | .fallback => { k with source := .fallback, rate := k.fallbackRate }

/-- Enter the wanted source if it differs from the effective one (R117). -/
def resource (k : Control) : Control := if k.wanted = k.source then k else k.enter k.wanted

/-- The period average, truncated towards zero, of a valid period (R113). -/
def average (k : Control) : Option Int :=
  if k.minSamples ≤ k.sampleCount then some (k.sampleSum.tdiv k.sampleCount) else none

/-- R114: the change of U for an error `e`. -/
def deltaU (k : Control) (e : Int) : Int :=
  k.kp * (e - k.e1) + k.ki * e + k.kd * (e - 2 * k.e1 + k.e2)

/-- A PI update (R114). -/
def update (k : Control) (avg : Int) : Control :=
  let e := k.setpoint - avg
  let u := k.clampU (k.u + k.deltaU e)
  { k with u := u, rate := rateOf u, e2 := k.e1, e1 := e }

/-- Priming (R115). -/
def prime (k : Control) (avg : Int) : Control :=
  { k with e1 := k.setpoint - avg, e2 := k.setpoint - avg, primed := true }

/-- Step 2 of a control tick (R113). -/
def loopStep (k : Control) (avg : Option Int) : Control :=
  match avg, k.source with
  | some a, .pi => if k.primed then k.update a else k.prime a
  | some _, .openLoop | some _, .fallback | none, _ => k

/-- Step 3 of a control tick: the stale bookkeeping of a PI-configured zone (R116). -/
def staleStep (k : Control) (valid : Bool) : Control :=
  match k.mode with
  | .openLoop => k
  | .pi =>
    if valid then ({ k with staleRun := 0, causeStale := false } : Control).resource
    else
      let run := min 15 (k.staleRun + 1)
      ({ k with
         staleRun := run
         causeStale := k.causeStale || (decide (k.staleLimit ≠ 0) && decide (k.staleLimit ≤ run)) } : Control).resource

/-- Step 4 of a control tick (R113). -/
def clearSamples (k : Control) : Control := { k with sampleSum := 0, sampleCount := 0 }

/-- Accumulate a sample; a count of 65535 takes no more (R112). -/
def accumulate (k : Control) (x : Int) : Control :=
  if k.sampleCount = 65535 then k
  else { k with sampleSum := k.sampleSum + x, sampleCount := k.sampleCount + 1 }

/-- LEASE joins the fallback causes (R118, R147). -/
def addLease (k : Control) : Control := ({ k with causeLease := true } : Control).resource

/-- LEASE leaves the fallback causes (R118, R148). -/
def removeLease (k : Control) : Control := ({ k with causeLease := false } : Control).resource

/-- A changed configured mode (R119). -/
def setMode (k : Control) (m : Mode) : Control :=
  if m = k.mode then k
  else ({ k with mode := m, staleRun := 0, causeStale := false } : Control).resource

/-- After a write of rate min or rate max: U comes into range, and in PI the rate follows (R121). -/
def clampRange (k : Control) : Control :=
  let u := k.clampU k.u
  match k.source with
  | .pi => { k with u := u, rate := rateOf u }
  | .openLoop | .fallback => { k with u := u }

end Control

/-! ### The zone monitor -/

namespace Monitor

/-- The warn level after a sample: the columns of R127 from the left, the first that fits decides. -/
def levelAfter (m : Monitor) (x : Int) : WarnLevel :=
  if m.warnHigh ≤ x then .high
  else if m.warnHigh - m.hysteresis ≤ x then
    match m.warnLevel with
    | .none | .low => .low
    | .high => .high
  else if m.warnLow ≤ x then .low
  else if m.warnLow - m.hysteresis ≤ x then
    match m.warnLevel with
    | .none => .none
    | .low | .high => .low
  else .none

/-- The over-run after a sample (R128). -/
def overRunAfter (m : Monitor) (x : Int) : Nat := if m.shutdown ≤ x then min 8 (m.overRun + 1) else 0

/-- A sample reaches the monitor (R126 to R128). -/
def sample (m : Monitor) (x : Int) : Monitor :=
  match m.mode with
  | .off => m
  | .warn | .cycle | .latched =>
    { m with
      warnLevel := m.levelAfter x
      overRun := m.overRunAfter x
      tripped := m.tripped || decide (m.deglitch ≤ m.overRunAfter x) }

/-- The release value of a trip (R131). -/
def releaseValue (m : Monitor) : Int := m.shutdown - m.hysteresis

/-- The trip is released (R131, R132). -/
def released (m : Monitor) : Monitor := { m with tripped := false, overRun := 0 }

/-- A period average reaches the monitor (R131). -/
def periodAverage (m : Monitor) (avg : Int) : Monitor :=
  match m.mode with
  | .warn | .cycle => if m.tripped && decide (avg < m.releaseValue) then m.released else m
  | .off | .latched => m

/-- A changed mode (R126). -/
def setMode (m : Monitor) (md : MonMode) : Monitor :=
  if md = m.mode then m
  else match md, m.mode with
    | .off, _ => { m with mode := .off, warnLevel := .none, overRun := 0, tripped := false }
    | _, .off => { m with mode := md, warnLevel := .none, overRun := 0, tripped := false }
    | _, _ => { m with mode := md }

end Monitor

/-- The rank of a warn level. -/
def WarnLevel.rank : WarnLevel → Nat
  | .none => 0
  | .low => 1
  | .high => 2

namespace ZoneRec

/-- A zone with a sensor closes its control period (R113). -/
def closePeriod (z : ZoneRec) : ZoneRec :=
  match z.control.sensor with
  | none => z
  | some _ =>
    let avg := z.control.average
    { z with
      control := ((z.control.loopStep avg).staleStep avg.isSome).clearSamples
      monitor := match avg with
        | some a => z.monitor.periodAverage a
        | none => z.monitor
      lastAverage := match avg with
        | some a => some a
        | none => z.lastAverage }

/-- A sample of channel `ch` reaches the zone if its sensor names the channel (R108). -/
def takeSample (ch : ChanIx) (x : Int) (z : ZoneRec) : ZoneRec :=
  if z.control.sensor = some ch then { z with control := z.control.accumulate x, monitor := z.monitor.sample x } else z

end ZoneRec

/-! ### The scanner -/

namespace Ctl

/-- Channel `ch` is due in the round in progress (R106). -/
def due (c : Ctl) (ch : ChanIx) : Bool :=
  c.channels[ch].enabled && decide (c.scanRound.toNat % c.channels[ch].divisor = 0)

/-- The lowest-numbered due channel at or above `low`. -/
def nextDue (c : Ctl) (low : Nat) : Option ChanIx :=
  (List.finRange 8).find? fun ch => decide (low ≤ ch.val) && c.due ch

/-- The conversion of a channel starts with the offset it has then (R107). -/
def startOf (c : Ctl) (ch : ChanIx) : Conversion :=
  { channel := ch, offset := c.channels[ch].offset, discard := false }

/-- The next round begins; an empty one has no conversion (R106). -/
def nextRound (c : Ctl) : Ctl :=
  let c1 := { c with scanRound := c.scanRound + 1 }
  { c1 with conversion := (c1.nextDue 0).map c1.startOf }

/-- After the conversion of channel `ch` the scanner looks for the next channel (R106). -/
def afterConversion (c : Ctl) (ch : ChanIx) : Ctl :=
  match c.nextDue (ch.val + 1) with
  | some n => { c with conversion := some (c.startOf n) }
  | none => c.nextRound

/-- Change every zone record. -/
def mapZones (c : Ctl) (f : ZoneRec → ZoneRec) : Ctl := { c with zones := c.zones.map f }

/-- Change one zone record. -/
def adjustZone (c : Ctl) (z : ZoneIx) (f : ZoneRec → ZoneRec) : Ctl := { c with zones := adjust c.zones z f }

/-- Change one zone's control record. -/
def adjustControl (c : Ctl) (z : ZoneIx) (f : Control → Control) : Ctl :=
  c.adjustZone z fun r => { r with control := f r.control }

/-- Change one zone's monitor record. -/
def adjustMonitor (c : Ctl) (z : ZoneIx) (f : Monitor → Monitor) : Ctl :=
  c.adjustZone z fun r => { r with monitor := f r.monitor }

/-- Some zone passes from one record to another so that `p` holds of the two. -/
def someZone (c0 c1 : Ctl) (p : ZoneRec → ZoneRec → Bool) : Bool :=
  (List.finRange 8).any fun z => p c0.zones[z] c1.zones[z]

end Ctl

/-- The sample that a raw temperature and an offset give (R108). -/
def sampleOf (raw offset : Int) : Int := clamp (-128) 383 (clamp (-128) 383 raw + offset)

/-! ### The indicator -/

/-- The duty that the source's value gives (R174). -/
def sourceDuty (c : Ctl) (t : Traffic) : Duty :=
  match c.indicator.source with
  | .off => .low
  | .zoneRate z => { num := c.zones[z].control.rate, den := 4095 }
  | .zoneTemp z =>
    match c.zones[z].lastAverage with
    | some a => { num := (a + 128).toNat, den := 511 }
    | none => .low
  | .occupancy => { num := t.occupancy, den := 64 }

/-- A control tick lowers the blanking count; at 0 INDICATE follows its source (R175, log entries 16 and 17). -/
def Indicator.tick (n : Indicator) (d : Duty) : Indicator :=
  match n.blanking with
  | 0 => n
  | b + 1 => { n with blanking := b, duty := if b = 0 then d else n.duty }

end Sys2Proof.Machine
end

