-- ==== Sys2Proof/Machine/Clock.lean ====
section
/-! DEFINITION. The clock: what one microsecond does. The timers count, and the expiries it brings due wait in
`State.due`, as their commands, until each is taken or undone (R60, R111, R123, R135, R139, R145, R147; log entries 3, 4
and 18). -/

namespace Sys2Proof.Machine

/-- A command that `b` makes due. -/
def dueIf (b : Bool) (c : Instr) : List Instr := if b then [c] else []

/-- The refill timer expires in this microsecond (R60). -/
def Ctl.refillDue (c : Ctl) : Bool := decide (c.refillPeriod ≤ c.refillElapsed + 1)

/-- The control timer expires in this microsecond: its period is the refill period times the divisor (R111). -/
def Ctl.controlDue (c : Ctl) : Bool := decide (c.refillPeriod * c.controlDivisor ≤ c.controlElapsed + 1)

/-- The rail filter expires in this microsecond (R135). -/
def RailState.due : RailState → Bool
  | .filtering n => decide (n ≤ 1)
  | .idle | .good | .lost | .recoveredLatched => false

/-- The surge filter expires in this microsecond (R139). -/
def SurgeState.due : SurgeState → Bool
  | .filtering n => decide (n ≤ 1)
  | .idle | .armed | .tripped => false

/-- A running rail filter has a microsecond less to go. -/
def RailState.tick : RailState → RailState
  | .filtering n => .filtering (n - 1)
  | .idle => .idle
  | .good => .good
  | .lost => .lost
  | .recoveredLatched => .recoveredLatched

/-- A running surge filter has a microsecond less to go. -/
def SurgeState.tick : SurgeState → SurgeState
  | .filtering n => .filtering (n - 1)
  | .idle => .idle
  | .armed => .armed
  | .tripped => .tripped

/-- The lease timer runs in WAITING and OPEN_WINDOW (R143). -/
def Lease.runs (l : Lease) : Bool :=
  match l.state with
  | .waiting | .openWindow => true
  | .stopped | .violated => false

/-- A microsecond of the lease: 1000 of them are a millisecond of the timer, 0..65535 (R143). -/
def Lease.tick (l : Lease) : Lease :=
  if l.runs then
    if l.micros + 1 < 1000 then { l with micros := l.micros + 1 }
    else { l with timer := min 65535 (l.timer + 1), micros := 0 }
  else l

/-- The lease timer, after a microsecond, has reached open time in WAITING (R145). -/
def Lease.openDue (l : Lease) : Bool := decide (l.state = .waiting) && decide (l.openTime ≤ l.tick.timer)

/-- The lease timer, after a microsecond, has reached close time in OPEN_WINDOW (R147). -/
def Lease.closeDue (l : Lease) : Bool := decide (l.state = .openWindow) && decide (l.closeTime ≤ l.tick.timer)

/-- The commands that fall due in this microsecond. -/
def Ctl.dueNow (c : Ctl) : List Instr :=
  dueIf c.refillDue .refillTick ++ dueIf c.refillDue .ageTick ++ dueIf c.refillDue .cycleBoundary ++
    dueIf c.controlDue .controlTick ++ dueIf c.railState.due .railFilterExpiry ++
    dueIf c.surgeState.due .surgeFilterExpiry ++ dueIf c.lease.openDue .leaseOpenTime ++
    dueIf c.lease.closeDue .leaseCloseTime

/-- The control side a microsecond later. -/
def Ctl.tick (c : Ctl) : Ctl :=
  { c with
    refillElapsed := if c.refillDue then 0 else c.refillElapsed + 1
    controlElapsed := if c.controlDue then 0 else c.controlElapsed + 1
    railState := c.railState.tick
    surgeState := c.surgeState.tick
    lease := c.lease.tick }

/-- `x` put into a list at place `n`. -/
def insertAt {α : Type} (x : α) (n : Nat) (l : List α) : List α := l.take n ++ x :: l.drop n

/-- The commands due together, in the order in which they are taken: the spec leaves it open, and `rank` gives a place
for each among those already placed (log entry 4). A command alone needs no place. -/
def arrange (rank : Nat → Nat) : List Instr → List Instr
  | [] => []
  | c :: cs =>
    match arrange rank cs with
    | [] => [c]
    | d :: ds => insertAt c (rank cs.length % (cs.length + 1)) (d :: ds)

/-- A microsecond passes; what falls due in it waits to be taken. -/
def State.microsecond (s : State) : State :=
  match s.ctl.dueNow with
  | [] => { s with ctl := s.ctl.tick }
  | c :: cs =>
    { s with
      ctl := s.ctl.tick
      freeCount := s.freeCount + 1
      due := arrange (Config.freeRank s.freeCount) (c :: cs) }

/-- An expiry that waits still comes: the filter or the lease timer it belongs to still stands at its end. A stop or a
restart taken before it undoes it (R135, R139, R145 to R148); the ticks are undone where their timers restart. -/
def Ctl.stillDue (c : Ctl) : Instr → Bool
  | .railFilterExpiry => decide (c.railState = .filtering 0)
  | .surgeFilterExpiry => decide (c.surgeState = .filtering 0)
  | .leaseOpenTime => decide (c.lease.state = .waiting) && decide (c.lease.openTime ≤ c.lease.timer)
  | .leaseCloseTime => decide (c.lease.state = .openWindow) && decide (c.lease.closeTime ≤ c.lease.timer)
  | _ => true

end Sys2Proof.Machine
end

