-- ==== Sys2Proof/Machine/Governor.lean ====
section
/-! DEFINITION. Governor control: FROZEN_ENTRY and the entry made by DRAIN and DELIVERY (R150), re-resolution at RESUME
(R153), RESET_CONFIG (R155). The frames that carry DRAIN, RESUME and RESET_CONFIG are in Machine/Link.lean. -/

namespace Sys2Proof.Machine

/-- The end of a drain: in DRAINING with no READY or FORWARDED slot the governor becomes FROZEN and FROZEN is raised
(R149, R150). -/
def State.frozenCheck (s : State) : State :=
  if s.ctl.governor = .draining ∧ s.traffic.inFlight = 0 then
    { s with ctl := { s.ctl with governor := .frozen }, traffic := s.traffic.raise .frozen }
  else s

/-- FROZEN_ENTRY (R150): acts only where the entry is still due (log entry 9). -/
def execFrozenEntry (s : State) : Host.Outcome State Fault Refusal := .next s.frozenCheck

/-- DRAIN's effect (R150). -/
def State.drain (s : State) : State :=
  match s.ctl.governor with
  | .run => (s.control { s.ctl with governor := .draining }).frozenCheck
  | .draining | .frozen => s

namespace Traffic

/-- Step 1 of re-resolution: a paid slot is refunded (R69, R153). -/
def reRefund (c : Ctl) (i : SlotIx) (t : Traffic) : Traffic := t.refundIfPaid c i

/-- A slot's record after step 2 of re-resolution: window, zone and cost from the map as it stands, and an UNGOVERNED
slot paid (R153). -/
def relooked (c : Ctl) (s : Slot) : Slot :=
  let l := c.lookup (pageOf s.beatAddr)
  { s with window := l.window, zone := l.zone, cost := c.cost l.zone s.dir s.length, paid := l.zone.isNone }

/-- Steps 1 to 3 of re-resolution for one HELD slot (R153). -/
def reResolveSlot (c : Ctl) (t : Traffic) (i : SlotIx) : Traffic :=
  match (t.slot i).state with
  | .held _ _ =>
    let s := t.slot i
    let t := (t.reRefund c i).setSlot i (relooked c s)
    match refusal c (c.lookup (pageOf s.beatAddr)) s.dir with
    | some a => t.answer c a i
    | none => t
  | .free | .ready | .forwarded _ | .answering _ => t

/-- Step 4 of re-resolution on one slot: FREEZE goes, BUDGET stands on a governed unpaid slot, and ORDER is put on for
`sweep` to take off where no older slot of the key is HELD (R153). -/
def reReason (s : Slot) (r : Reasons) : Reasons :=
  { r with freeze := false, budget := s.zone.isSome && !s.paid, order := true }

/-- Re-resolution (R153). -/
def reResolve (c : Ctl) (t : Traffic) : Traffic :=
  (((t.heldList.foldl (reResolveSlot c) t).mapSlots (Slot.mapReasons reReason)).sweep).payAttempts (List.finRange 8)

end Traffic

/-- RESUME's effect (R152, R153). -/
def State.resume (s : State) : State :=
  match s.ctl.governor with
  | .run => s
  | .draining => s.control { s.ctl with governor := .run }
  | .frozen =>
    let c := { s.ctl with governor := .run }
    { s with ctl := c, traffic := (s.traffic.reResolve c).settle c s.traffic }

/-- A conversion whose channel is disabled during it gives no result (R107). -/
def Conversion.spoil (v : Conversion) : Conversion := { v with discard := true }

/-- The control side after RESET_CONFIG: power-on values, but for what R155 keeps and the input levels. -/
def Ctl.resetConfig (c : Ctl) : Ctl :=
  { Ctl.powerOn with
    eventMask := c.eventMask
    scanRound := c.scanRound
    conversion := c.conversion.map .spoil
    snapshot := c.snapshot
    resetAsserted := c.resetAsserted
    railGood := c.railGood
    surgeAsserted := c.surgeAsserted }

/-- Every credit becomes 65535 (R74). -/
def Traffic.resetCredits (t : Traffic) : Traffic :=
  { t with accounts := t.accounts.map fun a => { a with credit := Config.ceiling } }

/-- RESET_CONFIG is accepted: FROZEN and every slot FREE (R155). -/
def State.mayResetConfig (s : State) : Bool := decide (s.ctl.governor = .frozen) && decide (s.traffic.occupancy = 0)

/-- An accepted RESET_CONFIG (R155). Both timers restart as at a write of the refill period (R74, R111; log entry 31); a
filter or lease expiry that waits is dropped when its turn comes, since its filter or timer runs no more. -/
def State.resetConfig (s : State) : State :=
  ({ s with traffic := s.traffic.resetCredits, due := withoutTicks s.due }).control s.ctl.resetConfig

end Sys2Proof.Machine
end

