-- ==== Sys2Proof/Machine/Answer.lean ====
section
/-! DEFINITION. RESPONSE_OFFER (R92) and DELIVERY (R94). -/

namespace Sys2Proof.Machine

/-- RESPONSE_OFFER (R92): acts only where the choice is still due (log entry 9). -/
def execResponseOffer (p : Port) (s : State) : Host.Outcome State Fault Refusal :=
  .next { s with traffic := s.traffic.offerResponse s.ctl p }

/-- Delivery frees a slot: it leaves the acceptance order and so its chain; its other fields stay (R5, R15). -/
def Traffic.freeSlot (i : SlotIx) (t : Traffic) : Traffic :=
  { t.setSlot i { t.slot i with state := .free } with order := t.order.erase i }

/-- A delivered MEM_ERROR is counted in the slot's zone (R94, R99). -/
def Traffic.noteDelivery (o : RespOffer) (t : Traffic) : Traffic :=
  if o.resp.status = .memError then t.count (t.slot o.slot).zone ZoneCounters.memError else t

/-- The memory port takes the delivered response from memory and examines the next (R39, R94). -/
def Traffic.takeFromMemory (k : OfferKind) (t : Traffic) : Traffic :=
  match k with
  | .memory => Traffic.pump t.memBacklog { t with memChannel := none }
  | .synthetic => t

/-- The transaction path after the requester of port `p` took the offer `o`, before stalled offers are examined
(R94). -/
def Traffic.deliver (p : Port) (o : RespOffer) (t : Traffic) : Traffic :=
  let t := (t.noteDelivery o).freeSlot o.slot
  { t with resps := t.resps.set p none }.takeFromMemory o.kind

/-- DELIVERY: the requester takes the current offer (R94). Without one there is nothing to take (log entry 2). -/
def execDelivery (p : Port) (s : State) : Host.Outcome State Fault Refusal :=
  match s.traffic.resps.get p with
  | none => .next s
  | some o =>
    let s1 := ({ s with traffic := s.traffic.deliver p o }).frozenCheck
    .next (s1.onPath (s1.traffic.examineBoth s1.ctl))

end Sys2Proof.Machine
end

