-- ==== Sys2Proof/Machine/Intake.lean ====
section
/-! DEFINITION. REQUEST_OFFER (R31) and REQUEST_TAKE (R33). -/

namespace Sys2Proof.Machine

/-- A request appears at a port (R28, R31). -/
def Traffic.stand (p : Port) (r : Request) (t : Traffic) : Traffic :=
  { t with offers := t.offers.set p (some { req := r, counted := false }) }

/-- REQUEST_OFFER: the request is examined as it appears, and taken or stalled (R31). A port that already offers a
request has nothing else to offer: no event (log entry 2). -/
def execRequestOffer (p : Port) (r : Request) (s : State) : Host.Outcome State Fault Refusal :=
  if r.wellFormed then
    match s.traffic.offers.get p with
    | some _ => .next s
    | none => .next (s.onPath ((s.traffic.stand p r).examineOne s.ctl p))
  else .refused .illFormed

/-- REQUEST_TAKE: the intake unit takes the standing offer if it can be taken (R30, R33). After every other event a
standing offer is one that cannot be taken, so this acts only where the taking is still due (log entry 9). -/
def execRequestTake (p : Port) (s : State) : Host.Outcome State Fault Refusal :=
  if s.traffic.takeable s.ctl p then .next (s.onPath (s.traffic.take s.ctl p)) else .next s

end Sys2Proof.Machine
end

