-- ==== Sys2Proof/Machine/MemoryPort.lean ====
section
/-! DEFINITION. MEMORY_OFFER (R37), MEMORY_TAKE (R14), MEMORY_RESPONSE (R39). -/

namespace Sys2Proof.Machine

/-- The request record on the memory request channel (R29, R36, R37). -/
structure DownRequest where
  did      : Fin 32
  dir      : Dir
  beatAddr : BitVec 36
  length   : Nat
  data     : List WriteBeat
  deriving DecidableEq, Repr

/-- The request offered to memory: the slot's downstream ID, direction, address, length and stored beats (R37). -/
def Traffic.offeredRequest (t : Traffic) : Option DownRequest :=
  t.memOffer.map fun i =>
    { did := Traffic.didOfKey (t.slot i).key, dir := (t.slot i).dir, beatAddr := (t.slot i).beatAddr,
      length := (t.slot i).length, data := t.pool[i] }

/-- MEMORY_OFFER (R37): acts only where the offer is still due (log entry 9). -/
def execMemoryOffer (s : State) : Host.Outcome State Fault Refusal :=
  .next { s with traffic := s.traffic.offerMemory s.ctl }

/-- Memory takes the head `i` of the ready queue, `rest` stays (R14, R35, R37). -/
def Traffic.forward (i : SlotIx) (rest : List SlotIx) (t : Traffic) : Traffic :=
  ({ (t.setSlot i { t.slot i with state := .forwarded false }).freeBeats i with ready := rest, memOffer := none }).count
    (t.slot i).zone (ZoneCounters.taken (t.slot i).length)

/-- MEMORY_TAKE (R14). Without an offer there is nothing to take (log entry 2). -/
def execMemoryTake (s : State) : Host.Outcome State Fault Refusal :=
  match s.traffic.memOffer, s.traffic.ready with
  | some i, j :: rest => if i = j then .next (s.onPath (s.traffic.forward i rest)) else .next s
  | some _, [] | none, _ => .next s

/-- A response reaches the memory port: behind an occupied channel it waits in memory (R39, R95; log entry 10). -/
def Traffic.receive (m : MemResponse) (t : Traffic) : Traffic :=
  match t.memChannel with
  | some _ => { t with memBacklog := t.memBacklog ++ [m] }
  | none => Traffic.pump (t.memBacklog ++ [m]) t

/-- MEMORY_RESPONSE (R39, R41). -/
def execMemoryResponse (m : MemResponse) (s : State) : Host.Outcome State Fault Refusal :=
  .next (s.onPath (s.traffic.receive m))

end Sys2Proof.Machine
end

