-- ==== Sys2Proof/Machine/Reset.lean ====
section
/-! DEFINITION. POWER_ON_RESET (R176), RESET_N_ASSERT (R25, R42), RESET_N_RELEASE (R43). -/

namespace Sys2Proof.Machine

/-- The responses memory is offering or has ready: the one on the channel and those behind it. -/
def Traffic.memoryOwes (t : Traffic) : List MemResponse :=
  match t.memChannel with
  | some m => m.resp :: t.memBacklog
  | none => t.memBacklog

/-- A standing offer that has not been examined (R176). -/
def StandingOffer.fresh (o : StandingOffer) : StandingOffer := { o with counted := false }

/-- The transaction path at the end of power-on reset: power-on values, the requests standing at the ports as newly
appeared offers, and the responses memory offers examined (R41, R176; log entry 12). -/
def Traffic.powerOnFrom (t : Traffic) : Traffic :=
  Traffic.pump t.memoryOwes
    { Traffic.powerOn with offers := { a := t.offers.a.map .fresh, b := t.offers.b.map .fresh } }

/-- The control side at the end of power-on reset: the input levels are the board's (log entry 12). -/
def Ctl.powerOnFrom (c : Ctl) : Ctl :=
  { Ctl.powerOn with resetAsserted := c.resetAsserted, railGood := c.railGood, surgeAsserted := c.surgeAsserted }

/-- The link at the end of power-on reset: it waits for the release of a CS_N asserted then (R176). -/
def Link.powerOnFrom (l : Link) : Link :=
  { Link.powerOn with csAsserted := l.csAsserted, awaitRelease := l.csAsserted }

/-- POWER_ON_RESET: the end of power-on reset, from which every timer starts anew (R60, R111, R176). -/
def execPowerOnReset (s : State) : Host.Outcome State Fault Refusal :=
  .next
    { s with
      traffic := (s.traffic.powerOnFrom.examineBoth s.ctl.powerOnFrom).settle s.ctl.powerOnFrom s.traffic.powerOnFrom
      ctl := s.ctl.powerOnFrom
      link := s.link.powerOnFrom
      due := [] }

/-- Every slot becomes FREE; its last occupant's fields stay readable (R5, R25). -/
def Slot.freed (s : Slot) : Slot := { s with state := .free }

/-- Every credit becomes its zone's ceiling (R73). -/
def Traffic.fillCredits (c : Ctl) (t : Traffic) : Traffic :=
  { t with accounts := Vector.ofFn fun z : ZoneIx => { t.accounts[z] with credit := c.zones[z].ceiling } }

/-- What link reset does to the transaction path, before the memory responses are taken as orphans (R25, R42, R73). -/
def Traffic.emptied (c : Ctl) (t : Traffic) : Traffic :=
  { (t.mapSlots Slot.freed).fillCredits c with
    order := []
    ready := []
    pool := Vector.replicate 64 []
    nextWinner := .a
    memOffer := none
    memChannel := none
    memBacklog := []
    resps := { a := none, b := none } }

/-- RESET_N_ASSERT (R25, R42). An assertion of a RESET_N already asserted is no event (log entry 2). -/
def execResetNAssert (s : State) : Host.Outcome State Fault Refusal :=
  if s.ctl.resetAsserted then .next s
  else .next
    { s with
      traffic := Traffic.pump s.traffic.memoryOwes (s.traffic.emptied s.ctl)
      ctl := { s.ctl with resetAsserted := true, governor := .run } }

/-- RESET_N_RELEASE: intake resumes and examines the offers standing at both ports (R31, R43). -/
def execResetNRelease (s : State) : Host.Outcome State Fault Refusal :=
  if s.ctl.resetAsserted then
    let c := { s.ctl with resetAsserted := false }
    .next { s with ctl := c, traffic := (s.traffic.examineBoth c).settle c s.traffic }
  else .next s

end Sys2Proof.Machine
end

