-- ==== Sys2Proof/Machine/Scanner.lean ====
section
/-! DEFINITION. CONVERSION_COMPLETION (R107, R108), CONVERSION_FAULT (R109), EMPTY_ROUND_END (R106). -/

namespace Sys2Proof.Machine

/-- The channel record after a conversion that gave the sample `x` (R108). -/
def Channel.gave (x : Int) (ch : Channel) : Channel := { ch with lastSample := x, lastValid := true, fault := false }

/-- The channel record after a conversion that found the diode open or shorted (R109). -/
def Channel.failed (ch : Channel) : Channel := { ch with lastValid := false, fault := true }

/-- The control side after channel `ch` gave the sample `x`: the channel, and every zone that names it (R108). -/
def Ctl.sampled (c : Ctl) (ch : ChanIx) (x : Int) : Ctl :=
  ({ c with channels := adjust c.channels ch (Channel.gave x) }).mapZones (ZoneRec.takeSample ch x)

/-- CONVERSION_COMPLETION with the raw temperature `raw` in half-degrees (R106 to R108). In an empty round there is no
conversion to complete (log entry 2). -/
def execConversionCompletion (raw : Int) (s : State) : Host.Outcome State Fault Refusal :=
  match s.ctl.conversion with
  | none => .next s
  | some v =>
    if v.discard then .next { s with ctl := s.ctl.afterConversion v.channel }
    else
      let c := s.ctl.sampled v.channel (sampleOf raw v.offset)
      let warn := Ctl.someZone s.ctl c fun a b => decide (a.monitor.warnLevel.rank < b.monitor.warnLevel.rank)
      let trip := Ctl.someZone s.ctl c fun a b => !a.monitor.tripped && b.monitor.tripped
      .next (((s.raiseIf warn .zoneWarn).raiseIf trip .zoneShutdown).control (c.afterConversion v.channel))

/-- CONVERSION_FAULT (R107, R109). -/
def execConversionFault (s : State) : Host.Outcome State Fault Refusal :=
  match s.ctl.conversion with
  | none => .next s
  | some v =>
    if v.discard then .next { s with ctl := s.ctl.afterConversion v.channel }
    else
      let c := { s.ctl with channels := adjust s.ctl.channels v.channel Channel.failed }
      .next { s.raiseIf (!s.ctl.channels[v.channel].fault) .sensorFault with ctl := c.afterConversion v.channel }

/-- EMPTY_ROUND_END: the empty round ends and the next begins (R106). While a channel converts the round is not empty
(log entry 2). -/
def execEmptyRoundEnd (s : State) : Host.Outcome State Fault Refusal :=
  match s.ctl.conversion with
  | none => .next { s with ctl := s.ctl.nextRound }
  | some _ => .next s

end Sys2Proof.Machine
end

