-- ==== Sys2Proof/Machine/Ticks.lean ====
section
/-! DEFINITION. REFILL_TICK (R61), AGE_TICK (R76 to R83), CYCLE_BOUNDARY (R140), CONTROL_TICK (R113, R175),
REPETITION_PERIOD_START (R174). None of them touches a timer: the timers are the clock's (log entry 18). -/

namespace Sys2Proof.Machine

/-- Every zone's credit rises by its effective rate and stops at its ceiling (R61). -/
def Traffic.refill (c : Ctl) (t : Traffic) : Traffic :=
  { t with
    accounts := Vector.ofFn fun z : ZoneIx =>
      { t.accounts[z] with credit := min (t.accounts[z].credit + c.zones[z].control.rate) c.zones[z].ceiling } }

/-- REFILL_TICK (R61, R65). -/
def execRefillTick (s : State) : Host.Outcome State Fault Refusal :=
  .next (s.onPath ((s.traffic.refill s.ctl).payAttempts (List.finRange 8)))

/-- Ageing: a HELD slot without FREEZE (R76). -/
def Slot.grow (s : Slot) : Slot :=
  match s.state with
  | .held r age => if r.freeze then s else { s with state := .held r (min 255 (age + 1)) }
  | .free | .ready | .forwarded _ | .answering _ => s

namespace Traffic

/-- The expiring slots, in held-list order (R79). -/
def expiring (c : Ctl) (t : Traffic) : List SlotIx :=
  t.order.filter fun i =>
    match (t.slot i).state with
    | .held _ age => decide (c.limitOf (t.slot i).zone ≤ age)
    | .free | .ready | .forwarded _ | .answering _ => false

/-- Forced payment: the credit falls by the cost and stops at the negative of the ceiling (R70). -/
def forcePay (c : Ctl) (zone : ZoneRef) (cost : Nat) (t : Traffic) : Traffic :=
  match zone with
  | some z => t.setCredit z (max (t.credit z - cost) (-(c.zones[z].ceiling : Int)))
  | none => t

/-- Force a HELD slot with these reasons and age: paid on debt, marked forced, without BUDGET; the sweep that follows
releases it (R70, R81). -/
def force (c : Ctl) (i : SlotIx) (r : Reasons) (age : Nat) (t : Traffic) : Traffic :=
  (((t.forcePay c (t.slot i).zone (t.slot i).cost).setSlot i
    { t.slot i with state := .held { r with budget := false } age, paid := true, forced := true }).count
      (t.slot i).zone ZoneCounters.force).raise .holdForced

/-- The turn of an expiring slot (R80 to R83). -/
def turn (c : Ctl) (t : Traffic) (i : SlotIx) : Traffic :=
  match (t.slot i).state with
  | .held r age =>
    if r = Reasons.budgetOnly ∧ c.policyOf (t.slot i).zone = .force then (t.force c i r age).sweep
    else (t.answer c .expired i).sweep
  | .free | .ready | .forwarded _ | .answering _ => t

/-- A slot that an expiry forced or answered, for the payment attempts of the tick (R65, R83). -/
def wasTaken (s : Slot) : Bool := s.forced || s.state.isAnswering

/-- An age tick: ageing, the turns in held-list order, and the payment attempts (R76, R79, R83). -/
def age (c : Ctl) (t : Traffic) : Traffic :=
  let t := t.mapSlots Slot.grow
  let hit := t.expiring c
  let t := hit.foldl (turn c) t
  t.payAttempts (t.zonesOf hit wasTaken)

end Traffic

/-- AGE_TICK (R76). -/
def execAgeTick (s : State) : Host.Outcome State Fault Refusal := .next (s.onPath (s.traffic.age s.ctl))

/-- The surge filter's time in microseconds; NONE has none (R138). -/
def SurgeFilter.micros : SurgeFilter → Nat
  | .none => 0
  | .us1 => 1
  | .us4 => 4
  | .us16 => 16

/-- The surge state after a cycle boundary (R140). In TRIPPED it uses the surge filter as the field stands at the
boundary, so a filter write taken while TRIPPED counts (log entry 29, the model's choice). -/
def Ctl.surgeAtBoundary (c : Ctl) : SurgeState :=
  match c.surgeMode, c.surgeState with
  | .cycle, .tripped =>
    if c.surgeAsserted then
      match c.surgeFilter with
      | .none => .tripped
      | .us1 | .us4 | .us16 => .filtering c.surgeFilter.micros
    else .armed
  | .cycle, st => st
  | .latched, st => st
  | .off, st => st

/-- CYCLE_BOUNDARY (R140). -/
def execCycleBoundary (s : State) : Host.Outcome State Fault Refusal :=
  .next (s.control { s.ctl with surgeState := s.ctl.surgeAtBoundary })

/-- Every zone closes its control period (R113). -/
def Ctl.closePeriods (c : Ctl) : Ctl := c.mapZones ZoneRec.closePeriod

/-- CONTROL_TICK: the periods close, ZONE_STALE is raised where STALE was added, and the indicator's blanking falls
(R113, R116, R175). -/
def execControlTick (s : State) : Host.Outcome State Fault Refusal :=
  let c := s.ctl.closePeriods
  let stale := Ctl.someZone s.ctl c fun a b => !a.control.causeStale && b.control.causeStale
  .next ((s.raiseIf stale .zoneStale).control { c with indicator := c.indicator.tick (sourceDuty c s.traffic) })

/-- The duty at the start of a repetition period: low while blanking, the source's duty otherwise (R174, R175). -/
def Indicator.atPeriodStart (n : Indicator) (d : Duty) : Indicator :=
  { n with duty := if n.blanking = 0 then d else .low }

/-- REPETITION_PERIOD_START (R174). -/
def execRepetitionPeriodStart (s : State) : Host.Outcome State Fault Refusal :=
  .next
    { s with
      ctl := { s.ctl with indicator := s.ctl.indicator.atPeriodStart (sourceDuty s.ctl s.traffic) } }

end Sys2Proof.Machine
end

