-- ==== Sys2Proof/Machine/LeaseUnit.lean ====
section
/-! DEFINITION. The setpoint lease: LEASE_OPEN_TIME (R145), LEASE_CLOSE_TIME (R147), and the effects of LEASE_START,
LEASE_RENEW, LEASE_STOP and CLEAR's LEASE part (R145 to R148). -/

namespace Sys2Proof.Machine

/-- The lease starts from timer 0: WAITING, or through it into OPEN_WINDOW when the open time is 0 (R145). -/
def Lease.started (l : Lease) : Lease :=
  { l with state := if l.openTime = 0 then .openWindow else .waiting, timer := 0, micros := 0 }

/-- The lease stops (R143, R148). -/
def Lease.stopped (l : Lease) : Lease := { l with state := .stopped, timer := 0, micros := 0 }

/-- A change of the lease record. -/
def State.withLease (s : State) (l : Lease) : State := { s with ctl := { s.ctl with lease := l } }

/-- LEASE_OPEN_TIME: the running timer reaches open time in WAITING (R145). -/
def execLeaseOpenTime (s : State) : Host.Outcome State Fault Refusal :=
  match s.ctl.lease.state with
  | .waiting =>
    .next (s.withLease { s.ctl.lease with state := .openWindow, timer := s.ctl.lease.openTime, micros := 0 })
  | .stopped | .openWindow | .violated => .next s

/-- A violation of the lease (R147). -/
def State.violate (s : State) (k : ViolationKind) : State :=
  let c := { s.ctl with lease := { s.ctl.lease with state := .violated, kind := k } }
  let c := match s.ctl.lease.response with
    | .fallback => c.mapZones fun z => { z with control := z.control.addLease }
    | .report => c
  { s.raiseIf true .leaseViolation with ctl := c }

/-- The lease has just started or restarted: its timer stands at 0 and no time has passed since, so it has not reached
close time, which is at least 1 (R143, R145, R146). -/
def Lease.justStarted (l : Lease) : Bool := decide (l.timer = 0) && decide (l.micros = 0)

/-- LEASE_CLOSE_TIME: the running timer reaches close time in OPEN_WINDOW (R147). A timer that has just restarted has not:
where the renewal is taken first, no violation occurs, also with open time 0, where it leaves OPEN_WINDOW. Any other
timer is taken to stand at close time (log entry 18, the model's choice). -/
def execLeaseCloseTime (s : State) : Host.Outcome State Fault Refusal :=
  match s.ctl.lease.state with
  | .openWindow =>
    if s.ctl.lease.justStarted then .next s
    else .next ((s.withLease { s.ctl.lease with timer := s.ctl.lease.closeTime, micros := 0 }).violate .late)
  | .stopped | .waiting | .violated => .next s

/-- LEASE_START's status and effect (R145). -/
def State.leaseStart (s : State) : Status × State :=
  match s.ctl.lease.state with
  | .stopped => (.done, s.withLease s.ctl.lease.started)
  | .waiting | .openWindow | .violated => (.busy, s)

/-- LEASE_RENEW's status and effect (R146). -/
def State.leaseRenew (s : State) : Status × State :=
  match s.ctl.lease.state with
  | .openWindow => (.done, s.withLease s.ctl.lease.started)
  | .waiting => (.conditionPresent, s.violate .early)
  | .violated => (.conditionPresent, s)
  | .stopped => (.invalid, s)

/-- LEASE_STOP's status and effect (R148). -/
def State.leaseStop (s : State) : Status × State :=
  match s.ctl.lease.state with
  | .waiting | .openWindow => (.done, s.withLease s.ctl.lease.stopped)
  | .stopped => (.done, s)
  | .violated => (.busy, s)

/-- CLEAR's LEASE part: it never reports CONDITION_PRESENT (R148). -/
def State.clearLease (s : State) : Bool × State :=
  match s.ctl.lease.state with
  | .violated =>
    (false, { s with
      ctl := ({ s.ctl with lease := { s.ctl.lease.stopped with kind := .none } }).mapZones fun z =>
        { z with control := z.control.removeLease } })
  | .stopped | .waiting | .openWindow => (false, s)

end Sys2Proof.Machine
end

