-- ==== Sys2Proof/Machine/Operands.lean ====
section
/-! DEFINITION. What crosses the management link: status codes, the field catalogue of section 10.4 with every field's
access and its value as a READ returns it (R164, R166). -/

namespace Sys2Proof.Machine

/-- Section 10.1. -/
def Status.code : Status → BitVec 8
  | .done => 0
  | .notFrozen => 1
  | .invalid => 2
  | .busy => 3
  | .conditionPresent => 4
  | .frameError => 5
  | .unknown => 6

/-! ### The catalogue -/

/-- Half of a split field (R166). -/
inductive Half where
  | high | low
  deriving DecidableEq, Repr

/-- The zone counters in the order of ZONE fields 41..56. -/
inductive CounterName where
  | admittedRequests | admittedBeats | heldRequests | expired | forced | fencedAnswers | refusedAnswers
  | memoryErrors
  deriving DecidableEq, Repr

def counterNames : List CounterName :=
  [.admittedRequests, .admittedBeats, .heldRequests, .expired, .forced, .fencedAnswers, .refusedAnswers,
    .memoryErrors]

inductive GlobalField where
  | governorState | totalOccupancy | occupancy (p : Port) | poolBeats | quota (p : Port) | refillPeriod
  | controlDivisor | ungovernedLimit | fenceScope | railMode | railFilter | railState | surgeMode | surgeFilter
  | surgeState | leaseOpen | leaseClose | leaseResponse | leaseState | leaseTimer | violationKind | eventMask
  | eventFlags | indicatorSource | scanRound | intakeStalls (h : Half) | orphans (h : Half) | frameErrors (h : Half)
  deriving DecidableEq, Repr

/-- GLOBAL fields 0..32. -/
def globalFields : List GlobalField :=
  [.governorState, .totalOccupancy, .occupancy .a, .occupancy .b, .poolBeats, .quota .a, .quota .b, .refillPeriod,
    .controlDivisor, .ungovernedLimit, .fenceScope, .railMode, .railFilter, .railState, .surgeMode, .surgeFilter,
    .surgeState, .leaseOpen, .leaseClose, .leaseResponse, .leaseState, .leaseTimer, .violationKind, .eventMask,
    .eventFlags, .indicatorSource, .scanRound, .intakeStalls .high, .intakeStalls .low, .orphans .high,
    .orphans .low, .frameErrors .high, .frameErrors .low]

inductive ZoneField where
  | credit (h : Half) | ceiling | readWeight | writeWeight | holdLimit | policy | longestHold | sensor
  | configuredMode | openRate | fallbackRate | setpoint | kp | ki | kd | rateMin | rateMax | minSamples | staleLimit
  | sampleSum (h : Half) | sampleCount | staleRun | e1 | e2 | u (h : Half) | primed | causes | source | rate
  | monitorMode | warnLow | warnHigh | shutdown | hysteresis | deglitch | warnLevel | tripState | overRun
  | counter (k : CounterName) (h : Half)
  deriving DecidableEq, Repr

/-- ZONE fields 0..56. -/
def zoneFields : List ZoneField :=
  [.credit .high, .credit .low, .ceiling, .readWeight, .writeWeight, .holdLimit, .policy, .longestHold, .sensor,
    .configuredMode, .openRate, .fallbackRate, .setpoint, .kp, .ki, .kd, .rateMin, .rateMax, .minSamples,
    .staleLimit, .sampleSum .high, .sampleSum .low, .sampleCount, .staleRun, .e1, .e2, .u .high, .u .low, .primed,
    .causes, .source, .rate, .monitorMode, .warnLow, .warnHigh, .shutdown, .hysteresis, .deglitch, .warnLevel,
    .tripState, .overRun] ++ counterNames.flatMap fun k => [.counter k .high, .counter k .low]

inductive WindowField where
  | enabled | base (h : Half) | limit (h : Half) | zone | attr
  deriving DecidableEq, Repr

/-- WINDOW fields 0..6. -/
def windowFields : List WindowField := [.enabled, .base .high, .base .low, .limit .high, .limit .low, .zone, .attr]

inductive ChannelField where
  | enabled | divisor | offset | lastSample | lastValid | fault
  deriving DecidableEq, Repr

/-- CHANNEL fields 0..5. -/
def channelFields : List ChannelField := [.enabled, .divisor, .offset, .lastSample, .lastValid, .fault]

inductive SlotField where
  | state | port | id | direction | page (h : Half) | beat | length | window | zone | cost | paid | forced | reasons
  | age | answerStatus | responsePresent
  deriving DecidableEq, Repr

/-- SLOT fields 0..16. -/
def slotFields : List SlotField :=
  [.state, .port, .id, .direction, .page .high, .page .low, .beat, .length, .window, .zone, .cost, .paid, .forced,
    .reasons, .age, .answerStatus, .responsePresent]

inductive SnapshotField where
  | zone | counter (k : CounterName) (h : Half) | longestHold
  deriving DecidableEq, Repr

/-- SNAPSHOT fields 0..17. -/
def snapshotFields : List SnapshotField :=
  [.zone] ++ (counterNames.flatMap fun k => [.counter k .high, .counter k .low]) ++ [.longestHold]

/-- A field of an object. -/
inductive Field where
  | global (f : GlobalField)
  | zone (z : ZoneIx) (f : ZoneField)
  | window (w : WinIx) (f : WindowField)
  | channel (c : ChanIx) (f : ChannelField)
  | slot (i : SlotIx) (f : SlotField)
  | snapshot (f : SnapshotField)
  deriving DecidableEq, Repr

/-- The field with a number in an object's class, if the class has it. -/
def ObjRef.fieldAt (o : ObjRef) (n : BitVec 8) : Option Field :=
  match o with
  | .global => globalFields[n.toNat]?.map .global
  | .zone z => zoneFields[n.toNat]?.map (.zone z)
  | .window w => windowFields[n.toNat]?.map (.window w)
  | .channel c => channelFields[n.toNat]?.map (.channel c)
  | .slot i => slotFields[n.toNat]?.map (.slot i)
  | .snapshot => snapshotFields[n.toNat]?.map .snapshot

/-- The field the pointer stands at (R163). -/
def State.pointed (s : State) : Option Field := s.link.object.fieldAt s.link.field

/-- The object a class code and an index name, if it exists (R163). -/
def objectOf (cls : BitVec 8) (index : Word) : Option ObjRef :=
  let n := index.toNat
  if cls = 0 then if n = 0 then some .global else none
  else if cls = 1 then if h : n < 8 then some (.zone ⟨n, h⟩) else none
  else if cls = 2 then if h : n < 16 then some (.window ⟨n, h⟩) else none
  else if cls = 3 then if h : n < 8 then some (.channel ⟨n, h⟩) else none
  else if cls = 4 then if h : n < 64 then some (.slot ⟨n, h⟩) else none
  else if cls = 5 then if n = 0 then some .snapshot else none
  else none

/-- The index of an object in its class. -/
def ObjRef.index : ObjRef → Nat
  | .global | .snapshot => 0
  | .zone z => z.val
  | .window w => w.val
  | .channel c => c.val
  | .slot i => i.val

/-! ### Access classes -/

/-- Read-only, structural, live, or gated by the lease state (section 10.4). -/
inductive Access where
  | readOnly | structural | live | lease
  deriving DecidableEq, Repr

def GlobalField.access : GlobalField → Access
  | .governorState | .totalOccupancy | .occupancy _ | .poolBeats | .railState | .surgeState | .leaseState | .leaseTimer
  | .violationKind | .eventFlags | .scanRound | .intakeStalls _ | .orphans _ | .frameErrors _ => .readOnly
  | .quota _ => .structural
  | .refillPeriod | .controlDivisor | .ungovernedLimit | .fenceScope | .railMode | .railFilter | .surgeMode
  | .surgeFilter | .eventMask | .indicatorSource => .live
  | .leaseOpen | .leaseClose | .leaseResponse => .lease

def ZoneField.access : ZoneField → Access
  | .credit _ | .longestHold | .sampleSum _ | .sampleCount | .staleRun | .e1 | .e2 | .u _ | .primed | .causes | .source
  | .rate | .warnLevel | .tripState | .overRun | .counter _ _ => .readOnly
  | .readWeight | .writeWeight | .sensor => .structural
  | .ceiling | .holdLimit | .policy | .configuredMode | .openRate | .fallbackRate | .setpoint | .kp | .ki | .kd
  | .rateMin | .rateMax | .minSamples | .staleLimit | .monitorMode | .warnLow | .warnHigh | .shutdown | .hysteresis
  | .deglitch => .live

def ChannelField.access : ChannelField → Access
  | .enabled | .divisor => .structural
  | .offset => .live
  | .lastSample | .lastValid | .fault => .readOnly

def Field.access : Field → Access
  | .global f => f.access
  | .zone _ f => f.access
  | .window _ _ => .structural
  | .channel _ f => f.access
  | .slot _ _ | .snapshot _ => .readOnly

/-! ### Encodings -/

def word (n : Nat) : Word := BitVec.ofNat 16 n

def signedWord (x : Int) : Word := BitVec.ofInt 16 x

def boolWord (b : Bool) : Word := if b then 1 else 0

/-- Half of a 32-bit value (R166). -/
def halfOf (x : BitVec 32) : Half → Word
  | .high => x.extractLsb' 16 16
  | .low => x.extractLsb' 0 16

/-- Half of a page number: divided by 65536, or modulo it (R44). -/
def pageHalf (x : BitVec 28) : Half → Word
  | .high => (x.extractLsb' 16 12).setWidth 16
  | .low => x.extractLsb' 0 16

/-- The absent marker (R166). -/
def absent : Word := 65535

def portCode : Port → Word
  | .a => 0
  | .b => 1

def zoneCode : ZoneRef → Word
  | some z => word z.val
  | none => 8

def Governor.code : Governor → Word
  | .run => 0
  | .draining => 1
  | .frozen => 2

def LeaseState.code : LeaseState → Word
  | .stopped => 0
  | .waiting => 1
  | .openWindow => 2
  | .violated => 3

def LeaseResponse.code : LeaseResponse → Word
  | .report => 0
  | .fallback => 1

def ViolationKind.code : ViolationKind → Word
  | .none => 0
  | .early => 1
  | .late => 2

def RailMode.code : RailMode → Word
  | .off => 0
  | .auto => 1
  | .latched => 2

def RailState.code : RailState → Word
  | .idle => 0
  | .good => 1
  | .filtering _ => 2
  | .lost => 3
  | .recoveredLatched => 4

def SurgeMode.code : SurgeMode → Word
  | .off => 0
  | .cycle => 1
  | .latched => 2

def SurgeFilter.code : SurgeFilter → Word
  | .none => 0
  | .us1 => 1
  | .us4 => 2
  | .us16 => 3

def SurgeState.code : SurgeState → Word
  | .idle => 0
  | .armed => 1
  | .filtering _ => 2
  | .tripped => 3

def IndicatorSource.code : IndicatorSource → Word
  | .off => 0
  | .zoneRate z => word (8 + z.val)
  | .zoneTemp z => word (16 + z.val)
  | .occupancy => 24

def Policy.code : Policy → Word
  | .abort => 0
  | .force => 1

def Mode.code : Mode → Word
  | .openLoop => 0
  | .pi => 1

def Source.code : Source → Word
  | .openLoop => 0
  | .pi => 1
  | .fallback => 2

def MonMode.code : MonMode → Word
  | .off => 0
  | .warn => 1
  | .cycle => 2
  | .latched => 3

def WarnLevel.code : WarnLevel → Word
  | .none => 0
  | .low => 1
  | .high => 2

def Attribute.code : Attribute → Word
  | .readWrite => 0
  | .readOnly => 1
  | .blocked => 2

def SlotState.code : SlotState → Word
  | .free => 0
  | .held _ _ => 1
  | .ready => 2
  | .forwarded _ => 3
  | .answering _ => 4

def AnswerStatus.code : AnswerStatus → Word
  | .fenced => 0
  | .expired => 1
  | .refused => 2

def dirCode : Dir → Word
  | .read => 0
  | .write => 1

/-- SLOT field 13: bit 0 BUDGET, 1 ORDER, 2 FREEZE, 3 RAIL, 4 SURGE. -/
def Reasons.code (r : Reasons) : Word :=
  (BitVec.ofBool r.surge ++ BitVec.ofBool r.rail ++ BitVec.ofBool r.freeze ++ BitVec.ofBool r.order ++
    BitVec.ofBool r.budget).setWidth 16

def ZoneCounters.get (k : ZoneCounters) : CounterName → Counter
  | .admittedRequests => k.admittedRequests
  | .admittedBeats => k.admittedBeats
  | .heldRequests => k.heldRequests
  | .expired => k.expired
  | .forced => k.forced
  | .fencedAnswers => k.fencedAnswers
  | .refusedAnswers => k.refusedAnswers
  | .memoryErrors => k.memoryErrors

/-! ### READ -/

def State.readGlobal (s : State) : GlobalField → Word
  | .governorState => s.ctl.governor.code
  | .totalOccupancy => word s.traffic.occupancy
  | .occupancy p => word (s.traffic.portOccupancy p)
  | .poolBeats => word s.traffic.poolInUse
  | .quota p => word (s.ctl.quotas.get p)
  | .refillPeriod => word s.ctl.refillPeriod
  | .controlDivisor => word s.ctl.controlDivisor
  | .ungovernedLimit => word s.ctl.ungovernedLimit
  | .fenceScope => boolWord s.ctl.scopeAll
  | .railMode => s.ctl.railMode.code
  | .railFilter => word s.ctl.railFilter
  | .railState => s.ctl.railState.code
  | .surgeMode => s.ctl.surgeMode.code
  | .surgeFilter => s.ctl.surgeFilter.code
  | .surgeState => s.ctl.surgeState.code
  | .leaseOpen => word s.ctl.lease.openTime
  | .leaseClose => word s.ctl.lease.closeTime
  | .leaseResponse => s.ctl.lease.response.code
  | .leaseState => s.ctl.lease.state.code
  | .leaseTimer => word s.ctl.lease.timer
  | .violationKind => s.ctl.lease.kind.code
  | .eventMask => s.ctl.eventMask
  | .eventFlags => s.traffic.flags
  | .indicatorSource => s.ctl.indicator.source.code
  | .scanRound => s.ctl.scanRound.setWidth 16
  | .intakeStalls h => halfOf s.traffic.intakeStalls h
  | .orphans h => halfOf s.traffic.orphans h
  | .frameErrors h => halfOf s.link.frameErrors h

/-- The fields of a zone that its settings and control state give. -/
def ZoneRec.readField (r : ZoneRec) (a : Account) : ZoneField → Word
  | .credit h => halfOf (BitVec.ofInt 32 a.credit) h
  | .ceiling => word r.ceiling
  | .readWeight => word r.readWeight
  | .writeWeight => word r.writeWeight
  | .holdLimit => word r.holdLimit
  | .policy => r.policy.code
  | .longestHold => word a.longestHold
  | .sensor => zoneCode r.control.sensor
  | .configuredMode => r.control.mode.code
  | .openRate => word r.control.openRate
  | .fallbackRate => word r.control.fallbackRate
  | .setpoint => signedWord r.control.setpoint
  | .kp => word r.control.kp
  | .ki => word r.control.ki
  | .kd => word r.control.kd
  | .rateMin => word r.control.rateMin
  | .rateMax => word r.control.rateMax
  | .minSamples => word r.control.minSamples
  | .staleLimit => word r.control.staleLimit
  | .sampleSum h => halfOf (BitVec.ofInt 32 r.control.sampleSum) h
  | .sampleCount => word r.control.sampleCount
  | .staleRun => word r.control.staleRun
  | .e1 => signedWord r.control.e1
  | .e2 => signedWord r.control.e2
  | .u h => halfOf (BitVec.ofInt 32 r.control.u) h
  | .primed => boolWord r.control.primed
  | .causes => (BitVec.ofBool r.control.causeLease ++ BitVec.ofBool r.control.causeStale).setWidth 16
  | .source => r.control.source.code
  | .rate => word r.control.rate
  | .monitorMode => r.monitor.mode.code
  | .warnLow => signedWord r.monitor.warnLow
  | .warnHigh => signedWord r.monitor.warnHigh
  | .shutdown => signedWord r.monitor.shutdown
  | .hysteresis => word r.monitor.hysteresis
  | .deglitch => word r.monitor.deglitch
  | .warnLevel => r.monitor.warnLevel.code
  | .tripState => boolWord r.monitor.tripped
  | .overRun => word r.monitor.overRun
  | .counter k h => halfOf (a.counters.get k) h

def Window.readField (w : Window) : WindowField → Word
  | .enabled => boolWord w.enabled
  | .base h => pageHalf w.basePage h
  | .limit h => pageHalf w.limitPage h
  | .zone => zoneCode w.zone
  | .attr => w.attr.code

def Channel.readField (c : Channel) : ChannelField → Word
  | .enabled => boolWord c.enabled
  | .divisor => word c.divisor
  | .offset => signedWord c.offset
  | .lastSample => signedWord c.lastSample
  | .lastValid => boolWord c.lastValid
  | .fault => boolWord c.fault

/-- A SLOT field; one that the slot's state lacks reads as the absent marker (R166). -/
def Slot.readField (s : Slot) : SlotField → Word
  | .state => s.state.code
  | .port => portCode s.port
  | .id => word s.id.val
  | .direction => dirCode s.dir
  | .page h => pageHalf (pageOf s.beatAddr) h
  | .beat => (s.beatAddr.extractLsb' 0 8).setWidth 16
  | .length => word s.length
  | .window => match s.window with
    | some w => word w.val
    | none => 16
  | .zone => zoneCode s.zone
  | .cost => word s.cost
  | .paid => boolWord s.paid
  | .forced => boolWord s.forced
  | .reasons => match s.state with
    | .held r _ => r.code
    | _ => absent
  | .age => match s.state with
    | .held _ a => word a
    | _ => absent
  | .answerStatus => match s.state with
    | .answering a => a.code
    | _ => absent
  | .responsePresent => match s.state with
    | .forwarded b => boolWord b
    | _ => absent

def Snapshot.readField (s : Snapshot) : SnapshotField → Word
  | .zone => zoneCode s.zone
  | .counter k h => halfOf (s.counters.get k) h
  | .longestHold => word s.longestHold

/-- A field's value as it crosses the link (R164, R166). -/
def State.readField (s : State) : Field → Word
  | .global f => s.readGlobal f
  | .zone z f => s.ctl.zones[z].readField (s.traffic.account z) f
  | .window w f => s.ctl.windows[w].readField f
  | .channel c f => s.ctl.channels[c].readField f
  | .slot i f => (s.traffic.slot i).readField f
  | .snapshot f => s.ctl.snapshot.readField f

/-! ### Decoding of written values -/

def boolOf (v : Word) : Option Bool := if v = 0 then some false else if v = 1 then some true else none

/-- 0..7, or 8 for UNGOVERNED or NONE. -/
def zoneOf (v : Word) : Option (Option (Fin 8)) :=
  if h : v.toNat < 8 then some (some ⟨v.toNat, h⟩) else if v = 8 then some none else none

def attributeOf (v : Word) : Option Attribute :=
  if v = 0 then some .readWrite else if v = 1 then some .readOnly else if v = 2 then some .blocked else none

def policyOfWord (v : Word) : Option Policy := if v = 0 then some .abort else if v = 1 then some .force else none

def modeOf (v : Word) : Option Mode := if v = 0 then some .openLoop else if v = 1 then some .pi else none

def monModeOf (v : Word) : Option MonMode :=
  if v = 0 then some .off else if v = 1 then some .warn else if v = 2 then some .cycle
  else if v = 3 then some .latched else none

def railModeOf (v : Word) : Option RailMode :=
  if v = 0 then some .off else if v = 1 then some .auto else if v = 2 then some .latched else none

def surgeModeOf (v : Word) : Option SurgeMode :=
  if v = 0 then some .off else if v = 1 then some .cycle else if v = 2 then some .latched else none

def surgeFilterOf (v : Word) : Option SurgeFilter :=
  if v = 0 then some .none else if v = 1 then some .us1 else if v = 2 then some .us4
  else if v = 3 then some .us16 else none

def leaseResponseOf (v : Word) : Option LeaseResponse :=
  if v = 0 then some .report else if v = 1 then some .fallback else none

def indicatorSourceOf (v : Word) : Option IndicatorSource :=
  let n := v.toNat
  if n = 0 then some .off
  else if h : 8 ≤ n ∧ n < 16 then some (.zoneRate ⟨n - 8, by omega⟩)
  else if h : 16 ≤ n ∧ n < 24 then some (.zoneTemp ⟨n - 16, by omega⟩)
  else if n = 24 then some .occupancy
  else none

/-- A value in `lo..hi`, unsigned. -/
def natIn (lo hi : Nat) (v : Word) : Option Nat := if lo ≤ v.toNat ∧ v.toNat ≤ hi then some v.toNat else none

/-- A value in `lo..hi`, read as two's complement (R166). -/
def intIn (lo hi : Int) (v : Word) : Option Int := if lo ≤ v.toInt ∧ v.toInt ≤ hi then some v.toInt else none

end Sys2Proof.Machine
end

