-- ==== Sys2Proof/Machine/Rail.lean ====
section
/-! DEFINITION. The rail monitor: RAILGOOD_FALL, RAILGOOD_RISE, RAIL_FILTER_EXPIRY (R135), its mode write and its part
of CLEAR (R136). -/

namespace Sys2Proof.Machine

/-- The rail state after a fall of RAILGOOD (R135). -/
def RailState.onFall (filter : Nat) : RailState → RailState
  | .good => .filtering filter
  | .recoveredLatched => .lost
  | .idle => .idle
  | .filtering n => .filtering n
  | .lost => .lost

/-- The rail state after a rise of RAILGOOD (R135). -/
def RailState.onRise (mode : RailMode) : RailState → RailState
  | .filtering _ => .good
  | .lost => match mode with
    | .latched => .recoveredLatched
    | .auto => .good
    | .off => .lost
  | .idle => .idle
  | .good => .good
  | .recoveredLatched => .recoveredLatched

/-- A fall of RAILGOOD takes the monitor into LOST: from RECOVERED_LATCHED only (R135). -/
def RailState.fallLoses : RailState → Bool
  | .recoveredLatched => true
  | .idle | .good | .filtering _ | .lost => false

/-- A rise of RAILGOOD takes the monitor from LOST to GOOD: in AUTO (R135). -/
def RailState.riseReturns (mode : RailMode) : RailState → Bool
  | .lost => decide (mode = .auto)
  | .idle | .good | .filtering _ | .recoveredLatched => false

/-- RAILGOOD_FALL (R135). A RAILGOOD that is low cannot fall (log entry 2). -/
def execRailgoodFall (s : State) : Host.Outcome State Fault Refusal :=
  if s.ctl.railGood then
    .next ((s.raiseIf s.ctl.railState.fallLoses .railLoss).control
      { s.ctl with railGood := false, railState := s.ctl.railState.onFall s.ctl.railFilter })
  else .next s

/-- RAILGOOD_RISE (R135). A RAILGOOD that is high cannot rise (log entry 2). -/
def execRailgoodRise (s : State) : Host.Outcome State Fault Refusal :=
  if s.ctl.railGood then .next s
  else
    .next ((s.raiseIf (s.ctl.railState.riseReturns s.ctl.railMode) .railReturn).control
      { s.ctl with railGood := true, railState := s.ctl.railState.onRise s.ctl.railMode })

/-- RAIL_FILTER_EXPIRY (R135): only a running filter expires (log entry 2), and it is its expiry whatever time the filter
has left (log entry 30, the model's choice). -/
def execRailFilterExpiry (s : State) : Host.Outcome State Fault Refusal :=
  match s.ctl.railState with
  | .filtering _ => .next ((s.raiseIf true .railLoss).control { s.ctl with railState := .lost })
  | .idle | .good | .lost | .recoveredLatched => .next s

/-- The rail state after an accepted write of a different mode (R136). -/
def Ctl.railStateFor (c : Ctl) (m : RailMode) : RailState :=
  match c.railMode, m with
  | _, .off => .idle
  | .off, .auto | .off, .latched => if c.railGood then .good else .filtering c.railFilter
  | .latched, .auto => match c.railState with
    | .recoveredLatched => .good
    | .idle => .idle
    | .good => .good
    | .filtering n => .filtering n
    | .lost => .lost
  | .auto, .latched | .auto, .auto | .latched, .latched => c.railState

/-- The rail monitor is in RECOVERED_LATCHED. -/
def RailState.isRecovered : RailState → Bool
  | .recoveredLatched => true
  | .idle | .good | .filtering _ | .lost => false

/-- The mode write's effect (R136). A write of the mode already held changes nothing. -/
def State.setRailMode (s : State) (m : RailMode) : State :=
  if m = s.ctl.railMode then s
  else
    (s.raiseIf (s.ctl.railState.isRecovered && decide (s.ctl.railMode = .latched) && decide (m = .auto))
      .railReturn).control { s.ctl with railMode := m, railState := s.ctl.railStateFor m }

/-- CLEAR's RAIL part: CONDITION_PRESENT or not, and the state after it (R136). -/
def State.clearRail (s : State) : Bool × State :=
  match s.ctl.railState with
  | .recoveredLatched => (false, (s.raiseIf true .railReturn).control { s.ctl with railState := .good })
  | .lost => (true, s)
  | .idle | .good | .filtering _ => (false, s)

end Sys2Proof.Machine
end

