-- ==== Sys2Proof/Machine/Surge.lean ====
section
/-! DEFINITION. The surge monitor: SURGE_ASSERT, SURGE_DEASSERT, SURGE_FILTER_EXPIRY (R139), its mode write and its part
of CLEAR (R140). -/

namespace Sys2Proof.Machine

/-- The state that an assertion taken in ARMED gives: TRIPPED at once, or FILTERING (R139). -/
def SurgeFilter.asserted (f : SurgeFilter) : SurgeState :=
  match f with
  | .none => .tripped
  | .us1 | .us4 | .us16 => .filtering f.micros

/-- The surge state after an assertion (R139). -/
def Ctl.surgeOnAssert (c : Ctl) : SurgeState :=
  match c.surgeState with
  | .armed => c.surgeFilter.asserted
  | .idle => .idle
  | .filtering n => .filtering n
  | .tripped => .tripped

/-- The surge state after a deassertion (R139). -/
def Ctl.surgeOnDeassert (c : Ctl) : SurgeState :=
  match c.surgeState with
  | .filtering _ => .armed
  | .idle => .idle
  | .armed => .armed
  | .tripped => .tripped

/-- The control side enters TRIPPED between the two, which raises SURGE (R139). -/
def surgeTrips (c0 c1 : Ctl) : Bool := !c0.surgeActive && c1.surgeActive

/-- SURGE_ASSERT (R139). A SURGE already asserted cannot be asserted (log entry 2). -/
def execSurgeAssert (s : State) : Host.Outcome State Fault Refusal :=
  if s.ctl.surgeAsserted then .next s
  else
    let c := { s.ctl with surgeAsserted := true, surgeState := s.ctl.surgeOnAssert }
    .next ((s.raiseIf (surgeTrips s.ctl c) .surge).control c)

/-- SURGE_DEASSERT (R139). -/
def execSurgeDeassert (s : State) : Host.Outcome State Fault Refusal :=
  if s.ctl.surgeAsserted then
    .next (s.control { s.ctl with surgeAsserted := false, surgeState := s.ctl.surgeOnDeassert })
  else .next s

/-- SURGE_FILTER_EXPIRY (R139): only a running filter expires (log entry 2), and it is its expiry whatever time the filter
has left (log entry 30, the model's choice). -/
def execSurgeFilterExpiry (s : State) : Host.Outcome State Fault Refusal :=
  match s.ctl.surgeState with
  | .filtering _ => .next ((s.raiseIf true .surge).control { s.ctl with surgeState := .tripped })
  | .idle | .armed | .tripped => .next s

/-- The surge state after an accepted write of a different mode (R140). -/
def Ctl.surgeStateFor (c : Ctl) (m : SurgeMode) : SurgeState :=
  match c.surgeMode, m with
  | _, .off => .idle
  | .off, .cycle | .off, .latched => if c.surgeAsserted then c.surgeFilter.asserted else .armed
  | .cycle, .cycle | .cycle, .latched | .latched, .cycle | .latched, .latched => c.surgeState

/-- The mode write's effect (R140). A write of the mode already held changes nothing. -/
def State.setSurgeMode (s : State) (m : SurgeMode) : State :=
  if m = s.ctl.surgeMode then s
  else
    let c := { s.ctl with surgeMode := m, surgeState := s.ctl.surgeStateFor m }
    (s.raiseIf (surgeTrips s.ctl c) .surge).control c

/-- CLEAR's SURGE part (R140). -/
def State.clearSurge (s : State) : Bool × State :=
  match s.ctl.surgeState with
  | .tripped => if s.ctl.surgeAsserted then (true, s) else (false, s.control { s.ctl with surgeState := .armed })
  | .idle | .armed | .filtering _ => (false, s)

end Sys2Proof.Machine
end

