-- ==== Sys2Proof/Machine/Link.lean ====
section
/-! DEFINITION. The management link: the end of a frame (R157), frame errors (R159), CS_N_ASSERT (R158),
POWER_ON_CS_N_RELEASE (R176), and every frame but WRITE (R160 to R164). A frame's command is one event, its end
(log entry 6). -/

namespace Sys2Proof.Machine

/-! ### Frames -/

/-- What a frame's command gives: the pending result and the state after it (R157). -/
structure Reply where
  status : Status
  value  : Word
  state  : State
  deriving DecidableEq, Repr

/-- The link at the end of a valid frame: pending result, frame count, CS_N released (R157). -/
def Link.ended (l : Link) (st : Status) (v : Word) : Link :=
  { l with status := st, value := v, frameCount := l.frameCount + 1, csAsserted := false, outbound := none }

/-- The end of a valid frame: the command's status and value become the pending result, then the count rises
(R157, 2 and 3). -/
def Reply.ended (r : Reply) : State := { r.state with link := r.state.link.ended r.status r.value }

/-- CS_N is released where the link waited for it: no frame, no frame error (R176). -/
def State.csReleased (s : State) : State :=
  { s with link := { s.link with csAsserted := false, awaitRelease := false } }

/-- The end of a frame whose command is `f`. While the link waits for the release of a CS_N asserted when power-on
reset ended, the release takes no frame (R176). -/
def State.frame (s : State) (f : State → Reply) : Host.Outcome State Fault Refusal :=
  if s.link.awaitRelease then .next s.csReleased else .next (f s).ended

/-- POWER_ON_CS_N_RELEASE (R176). Without the wait there is no such event (log entry 2). -/
def execPowerOnCsNRelease (s : State) : Host.Outcome State Fault Refusal :=
  if s.link.awaitRelease then .next s.csReleased else .next s

/-- The 32 outbound bits of a frame that begins now (R156, R158). -/
def State.outboundWord (s : State) : BitVec 32 :=
  s.link.value ++ s.link.status.code ++ s.link.frameCount ++ s.summary

/-- CS_N_ASSERT: a frame begins and its outbound bits are fixed (R158). A CS_N already asserted cannot be asserted
(log entry 2). -/
def execCsNAssert (s : State) : Host.Outcome State Fault Refusal :=
  if s.link.csAsserted then .next s
  else .next { s with link := { s.link with csAsserted := true, outbound := some s.outboundWord } }

/-- What the part drives on SDO as edge `n` of the frame is taken, counted from 0: the outbound word most significant bit
first, then zeros (R156, R159). `none` is a pin that the part does not drive: SDO is driven only while CS_N is asserted,
from an assertion that begins a frame (R156; log entry 32 on a CS_N that power-on reset finds asserted). -/
def Link.sdo (l : Link) (n : Nat) : Option Bool :=
  if l.csAsserted then l.outbound.map fun w => if n < 32 then w.getLsbD (31 - n) else false else none

/-- FRAME_ERROR: a release of CS_N after other than 32 edges (R159). -/
def execFrameError (edges : Nat) (s : State) : Host.Outcome State Fault Refusal :=
  if edges = 32 then .refused .illFormed
  else if s.link.awaitRelease then .next s.csReleased
  else
    .next { s.raiseIf true .frameError with
      link := { s.link with
        status := .frameError
        value := 0
        csAsserted := false
        outbound := none
        frameErrors := satAdd s.link.frameErrors 1 } }

/-! ### NOP, UNKNOWN, the pointer, READ -/

/-- NOP (R160). -/
def execNop (s : State) : Host.Outcome State Fault Refusal :=
  s.frame fun s => { status := .done, value := 0, state := s }

/-- UNKNOWN (R160). -/
def execUnknown (code : BitVec 8) (s : State) : Host.Outcome State Fault Refusal :=
  if frameCodes.contains code then .refused .illFormed
  else s.frame fun s => { status := .unknown, value := 0, state := s }

/-- A changed pointer. -/
def State.withPointer (s : State) (o : ObjRef) (n : BitVec 8) : State :=
  { s with link := { s.link with object := o, field := n } }

/-- SELECT_OBJECT's reply (R163). -/
def State.selectObject (s : State) (cls : BitVec 8) (index : Word) : Reply :=
  match objectOf cls index with
  | some o => { status := .done, value := word o.index, state := s.withPointer o 0 }
  | none => { status := .invalid, value := word s.link.object.index, state := s }

/-- SELECT_OBJECT (R163). -/
def execSelectObject (cls : BitVec 8) (index : Word) (s : State) : Host.Outcome State Fault Refusal :=
  s.frame fun s => s.selectObject cls index

/-- SELECT_FIELD's reply (R163). -/
def State.selectField (s : State) (n : Word) : Reply :=
  if n.toNat ≤ 255 then
    { status := .done, value := n, state := s.withPointer s.link.object (n.setWidth 8) }
  else { status := .invalid, value := s.link.field.setWidth 16, state := s }

/-- SELECT_FIELD (R163). -/
def execSelectField (field : Word) (s : State) : Host.Outcome State Fault Refusal :=
  s.frame fun s => s.selectField field

/-- READ and WRITE raise the pointer's field by 1, from 255 to 0 (R163). -/
def State.advance (s : State) : State := s.withPointer s.link.object (s.link.field + 1)

/-- READ's reply (R164). -/
def State.readReply (s : State) : Reply :=
  match s.pointed with
  | some f => { status := .done, value := s.readField f, state := s.advance }
  | none => { status := .invalid, value := 0, state := s.advance }

/-- READ (R164). -/
def execRead (s : State) : Host.Outcome State Fault Refusal := s.frame State.readReply

/-! ### CLEAR -/

/-- The trip of a zone that CLEAR releases: its sensor's channel has a valid last sample below the release value
(R132). -/
def ZoneRec.clearTrip (channels : Vector Channel 8) (z : ZoneRec) : ZoneRec :=
  match z.control.sensor with
  | some ch =>
    if z.monitor.tripped && channels[ch].lastValid && decide (channels[ch].lastSample < z.monitor.releaseValue) then
      { z with monitor := z.monitor.released }
    else z
  | none => z

/-- CLEAR's FENCES part: CONDITION_PRESENT if a zone stays TRIPPED, and the state after it (R132). -/
def State.clearFences (s : State) : Bool × State :=
  let c := s.ctl.mapZones (ZoneRec.clearTrip s.ctl.channels)
  ((List.finRange 8).any fun z => c.zones[z].monitor.tripped, s.control c)

/-- One part of CLEAR, whose bit stands at `n`, after the parts before it gave the mask and state `acc` (R162). -/
def clearPart (n : Nat) (part : State → Bool × State) (acc : Word × State) : Word × State :=
  (if (part acc.2).1 then acc.1 ||| BitVec.twoPow 16 n else acc.1, (part acc.2).2)

/-- A part of CLEAR acts if its bit is set in the mask (R162). -/
def clearIf (mask : Word) (n : Nat) (part : State → Bool × State) (acc : Word × State) : Word × State :=
  if mask.getLsbD n then clearPart n part acc else acc

/-- CLEAR's reply from the mask of parts that reported CONDITION_PRESENT (R162). -/
def clearReply (r : Word × State) : Reply :=
  { status := if r.1 = 0 then .done else .conditionPresent, value := r.1, state := r.2 }

/-- CLEAR's reply (R162): its parts in the order of their bits (log entry 25). -/
def State.clear (s : State) (mask : Word) : Reply :=
  if mask &&& 0xFFF0 = 0 then
    clearReply (clearIf mask 3 State.clearLease (clearIf mask 2 State.clearSurge
      (clearIf mask 1 State.clearRail (clearIf mask 0 State.clearFences (0, s)))))
  else { status := .invalid, value := 0, state := s }

/-- CLEAR (R162). -/
def execClear (mask : Word) (s : State) : Host.Outcome State Fault Refusal := s.frame fun s => s.clear mask

/-- CLEAR_FENCES: the CLEAR frame with the FENCES bit alone (R132, log entry 8). -/
def execClearFences (s : State) : Host.Outcome State Fault Refusal :=
  s.frame fun s => clearReply (clearPart 0 State.clearFences (0, s))

/-- CLEAR_RAIL: the CLEAR frame with the RAIL bit alone (R136, log entry 8). -/
def execClearRail (s : State) : Host.Outcome State Fault Refusal :=
  s.frame fun s => clearReply (clearPart 1 State.clearRail (0, s))

/-- CLEAR_SURGE: the CLEAR frame with the SURGE bit alone (R140, log entry 8). -/
def execClearSurge (s : State) : Host.Outcome State Fault Refusal :=
  s.frame fun s => clearReply (clearPart 2 State.clearSurge (0, s))

/-- CLEAR_LEASE: the CLEAR frame with the LEASE bit alone (R148, log entry 8). -/
def execClearLease (s : State) : Host.Outcome State Fault Refusal :=
  s.frame fun s => clearReply (clearPart 3 State.clearLease (0, s))

/-! ### Governor and lease commands -/

/-- A governor command's reply: the value is the governor state after the frame (R161). -/
def governorReply (st : Status) (s : State) : Reply := { status := st, value := s.ctl.governor.code, state := s }

/-- DRAIN (R150). -/
def execDrain (s : State) : Host.Outcome State Fault Refusal := s.frame fun s => governorReply .done s.drain

/-- RESUME (R152, R153). -/
def execResume (s : State) : Host.Outcome State Fault Refusal := s.frame fun s => governorReply .done s.resume

/-- RESET_CONFIG (R155). -/
def execResetConfig (s : State) : Host.Outcome State Fault Refusal :=
  s.frame fun s => if s.mayResetConfig then governorReply .done s.resetConfig else governorReply .busy s

/-- A lease command's reply: the value is the lease state after the frame (R161). -/
def leaseReply (r : Status × State) : Reply :=
  { status := r.1, value := r.2.ctl.lease.state.code, state := r.2 }

/-- LEASE_START (R145). -/
def execLeaseStart (s : State) : Host.Outcome State Fault Refusal := s.frame fun s => leaseReply s.leaseStart

/-- LEASE_RENEW (R146). -/
def execLeaseRenew (s : State) : Host.Outcome State Fault Refusal := s.frame fun s => leaseReply s.leaseRenew

/-- LEASE_STOP (R148). -/
def execLeaseStop (s : State) : Host.Outcome State Fault Refusal := s.frame fun s => leaseReply s.leaseStop

/-! ### SNAPSHOT, READ_EVENTS -/

/-- The account after clear-after: counters and longest hold 0 (R173). -/
def Account.cleared (a : Account) : Account := { a with counters := .zero, longestHold := 0 }

/-- SNAPSHOT of zone `z` (R173). -/
def State.takeSnapshot (s : State) (z : ZoneIx) (clearAfter : Bool) : State :=
  { s with
    ctl := { s.ctl with
      snapshot :=
        { zone := some z
          counters := (s.traffic.account z).counters
          longestHold := (s.traffic.account z).longestHold } }
    traffic := if clearAfter then s.traffic.setAccount z (s.traffic.account z).cleared else s.traffic }

/-- SNAPSHOT's reply (R161, R173). -/
def State.snapshotReply (s : State) (arg : BitVec 8) (v : Word) : Reply :=
  if h : arg.toNat < 8 then
    if v &&& 0xFFFE = 0 then
      { status := .done, value := 0, state := s.takeSnapshot ⟨arg.toNat, h⟩ (v.getLsbD 0) }
    else { status := .invalid, value := 0, state := s }
  else { status := .invalid, value := 0, state := s }

/-- SNAPSHOT (R173). -/
def execSnapshot (arg : BitVec 8) (v : Word) (s : State) : Host.Outcome State Fault Refusal :=
  s.frame fun s => s.snapshotReply arg v

/-- The flags without those of a set. -/
def Traffic.clearFlags (m : BitVec 16) (t : Traffic) : Traffic := { t with flags := t.flags &&& ~~~m }

/-- READ_EVENTS: the set flags are returned, and exactly those are cleared (R170). -/
def execReadEvents (s : State) : Host.Outcome State Fault Refusal :=
  s.frame fun s =>
    { status := .done
      value := s.traffic.flags
      state := { s with traffic := s.traffic.clearFlags s.traffic.flags } }

end Sys2Proof.Machine
end

