-- ==== Sys2Proof/Machine/Writes.lean ====
section
/-! DEFINITION. WRITE: what an accepted write of each field does (`none`: the value is refused INVALID), the checks of
R165 in their order, the WRITE frame, and the frames that spec/opcode_table.json lists by the field they write (log
entry 7). -/

namespace Sys2Proof.Machine

/-- The state with another control side, where a write reaches no slot. -/
def State.withCtl (s : State) (c : Ctl) : State := { s with ctl := c }

/-! ### GLOBAL fields -/

/-- A quota, and the examination of the port's stalled offer (R30, R31). -/
def State.storeQuota (s : State) (p : Port) (v : Word) : Option State :=
  (natIn 1 64 v).map fun q =>
    let c := { s.ctl with quotas := s.ctl.quotas.set p q }
    (s.withCtl c).onPath (s.traffic.examineOne c p)

/-- The refill period: both timers restart, and their expiries that wait do not come (R60, R111, R123). -/
def State.storeRefillPeriod (s : State) (v : Word) : Option State :=
  (natIn 1 1023 v).map fun n =>
    { s.withCtl { s.ctl with refillPeriod := n, refillElapsed := 0, controlElapsed := 0 } with
      due := withoutTicks s.due }

/-- The control divisor: the control timer restarts, and its expiry that waits does not come (R111, R123). -/
def State.storeControlDivisor (s : State) (v : Word) : Option State :=
  (natIn 1 255 v).map fun n =>
    { s.withCtl { s.ctl with controlDivisor := n, controlElapsed := 0 } with due := withoutControl s.due }

/-- The UNGOVERNED hold limit (R78). -/
def State.storeUngovernedLimit (s : State) (v : Word) : Option State :=
  (natIn 1 255 v).map fun n => s.withCtl { s.ctl with ungovernedLimit := n }

/-- The fence scope: onset or lift in zones without a fencing trip of their own (R129). -/
def State.storeFenceScope (s : State) (v : Word) : Option State :=
  (boolOf v).map fun b => s.control { s.ctl with scopeAll := b }

/-- The rail mode (R136). -/
def State.storeRailMode (s : State) (v : Word) : Option State := (railModeOf v).map s.setRailMode

/-- The rail filter (R134). -/
def State.storeRailFilter (s : State) (v : Word) : Option State :=
  (natIn 1 255 v).map fun n => s.withCtl { s.ctl with railFilter := n }

/-- The surge mode (R140). -/
def State.storeSurgeMode (s : State) (v : Word) : Option State := (surgeModeOf v).map s.setSurgeMode

/-- The surge filter (R138). -/
def State.storeSurgeFilter (s : State) (v : Word) : Option State :=
  (surgeFilterOf v).map fun f => s.withCtl { s.ctl with surgeFilter := f }

/-- The lease open time, 0..65534 and below the close time (R144). -/
def State.storeLeaseOpen (s : State) (v : Word) : Option State :=
  if v.toNat ≤ 65534 ∧ v.toNat < s.ctl.lease.closeTime then
    some (s.withLease { s.ctl.lease with openTime := v.toNat })
  else none

/-- The lease close time, above the open time (R144). -/
def State.storeLeaseClose (s : State) (v : Word) : Option State :=
  if s.ctl.lease.openTime < v.toNat then some (s.withLease { s.ctl.lease with closeTime := v.toNat }) else none

/-- The lease response (R144). -/
def State.storeLeaseResponse (s : State) (v : Word) : Option State :=
  (leaseResponseOf v).map fun r => s.withLease { s.ctl.lease with response := r }

/-- The event mask: every value is accepted (R169). -/
def State.storeEventMask (s : State) (v : Word) : Option State := some (s.withCtl { s.ctl with eventMask := v })

/-- The indicator source: blanking starts and INDICATE is held low (R175). -/
def State.storeIndicatorSource (s : State) (v : Word) : Option State :=
  (indicatorSourceOf v).map fun x =>
    s.withCtl { s.ctl with indicator := { source := x, blanking := 2, duty := .low } }

/-- A write of a GLOBAL field. -/
def State.storeGlobal (s : State) (v : Word) : GlobalField → Option State
  | .quota p => s.storeQuota p v
  | .refillPeriod => s.storeRefillPeriod v
  | .controlDivisor => s.storeControlDivisor v
  | .ungovernedLimit => s.storeUngovernedLimit v
  | .fenceScope => s.storeFenceScope v
  | .railMode => s.storeRailMode v
  | .railFilter => s.storeRailFilter v
  | .surgeMode => s.storeSurgeMode v
  | .surgeFilter => s.storeSurgeFilter v
  | .leaseOpen => s.storeLeaseOpen v
  | .leaseClose => s.storeLeaseClose v
  | .leaseResponse => s.storeLeaseResponse v
  | .eventMask => s.storeEventMask v
  | .indicatorSource => s.storeIndicatorSource v
  | .governorState | .totalOccupancy | .occupancy _ | .poolBeats | .railState | .surgeState | .leaseState
  | .leaseTimer | .violationKind | .eventFlags | .scanRound | .intakeStalls _ | .orphans _ | .frameErrors _ => none

/-! ### ZONE fields -/

/-- A change of one zone's record that reaches no slot. -/
def State.withZone (s : State) (z : ZoneIx) (f : ZoneRec → ZoneRec) : State := s.withCtl (s.ctl.adjustZone z f)

/-- A change of one zone's control record. -/
def State.withControl (s : State) (z : ZoneIx) (f : Control → Control) : State := s.withCtl (s.ctl.adjustControl z f)

/-- A change of one zone's monitor configuration. -/
def State.withMonitor (s : State) (z : ZoneIx) (f : Monitor → Monitor) : State := s.withCtl (s.ctl.adjustMonitor z f)

/-- The ceiling: the credit is brought into the new range (R72). -/
def State.storeCeiling (s : State) (z : ZoneIx) (v : Word) : Option State :=
  (natIn 1 65535 v).map fun n =>
    { s.withZone z fun r => { r with ceiling := n } with
      traffic := s.traffic.setCredit z (clamp (-(n : Int)) n (s.traffic.credit z)) }

/-- The read weight (R58). -/
def State.storeReadWeight (s : State) (z : ZoneIx) (v : Word) : Option State :=
  (natIn 1 15 v).map fun n => s.withZone z fun r => { r with readWeight := n }

/-- The write weight (R58). -/
def State.storeWriteWeight (s : State) (z : ZoneIx) (v : Word) : Option State :=
  (natIn 1 15 v).map fun n => s.withZone z fun r => { r with writeWeight := n }

/-- The hold limit (R78). -/
def State.storeHoldLimit (s : State) (z : ZoneIx) (v : Word) : Option State :=
  (natIn 1 255 v).map fun n => s.withZone z fun r => { r with holdLimit := n }

/-- The expiry policy (R78). -/
def State.storePolicy (s : State) (z : ZoneIx) (v : Word) : Option State :=
  (policyOfWord v).map fun p => s.withZone z fun r => { r with policy := p }

/-- A written sensor: the accumulators become 0 (R112, R119). -/
def Control.withSensor (ch : Option ChanIx) (k : Control) : Control :=
  { k with sensor := ch, sampleSum := 0, sampleCount := 0 }

/-- The sensor: NONE is refused while the configured mode is PI (R119). -/
def State.storeSensor (s : State) (z : ZoneIx) (v : Word) : Option State :=
  match zoneOf v with
  | some (some ch) => some (s.withControl z (Control.withSensor (some ch)))
  | some none =>
    match s.ctl.zones[z].control.mode with
    | .pi => none
    | .openLoop => some (s.withControl z (Control.withSensor none))
  | none => none

/-- The configured mode: PI is refused while the sensor is NONE (R119). -/
def State.storeMode (s : State) (z : ZoneIx) (v : Word) : Option State :=
  match modeOf v, s.ctl.zones[z].control.sensor with
  | some .pi, none => none
  | some .pi, some _ => some (s.withControl z fun k => k.setMode .pi)
  | some .openLoop, _ => some (s.withControl z fun k => k.setMode .openLoop)
  | none, _ => none

/-- A written open rate (R120). -/
def Control.withOpenRate (n : Nat) (k : Control) : Control :=
  { k with openRate := n, rate := if k.source = .openLoop then n else k.rate }

/-- The open rate (R120). -/
def State.storeOpenRate (s : State) (z : ZoneIx) (v : Word) : Option State :=
  (natIn 0 4095 v).map fun n => s.withControl z (Control.withOpenRate n)

/-- A written fallback rate (R120). -/
def Control.withFallbackRate (n : Nat) (k : Control) : Control :=
  { k with fallbackRate := n, rate := if k.source = .fallback then n else k.rate }

/-- The fallback rate (R120). -/
def State.storeFallbackRate (s : State) (z : ZoneIx) (v : Word) : Option State :=
  (natIn 0 4095 v).map fun n => s.withControl z (Control.withFallbackRate n)

/-- The setpoint (R122). -/
def State.storeSetpoint (s : State) (z : ZoneIx) (v : Word) : Option State :=
  (intIn (-128) 383 v).map fun x => s.withControl z fun k => { k with setpoint := x }

/-- Rate min, at most rate max (R121). -/
def State.storeRateMin (s : State) (z : ZoneIx) (v : Word) : Option State :=
  if v.toNat ≤ 4095 ∧ v.toNat ≤ s.ctl.zones[z].control.rateMax then
    some (s.withControl z fun k => ({ k with rateMin := v.toNat } : Control).clampRange)
  else none

/-- Rate max, at least rate min (R121). -/
def State.storeRateMax (s : State) (z : ZoneIx) (v : Word) : Option State :=
  if v.toNat ≤ 4095 ∧ s.ctl.zones[z].control.rateMin ≤ v.toNat then
    some (s.withControl z fun k => ({ k with rateMax := v.toNat } : Control).clampRange)
  else none

/-- Minimum samples (R122). -/
def State.storeMinSamples (s : State) (z : ZoneIx) (v : Word) : Option State :=
  (natIn 1 63 v).map fun n => s.withControl z fun k => { k with minSamples := n }

/-- The stale limit (R122). -/
def State.storeStaleLimit (s : State) (z : ZoneIx) (v : Word) : Option State :=
  (natIn 0 15 v).map fun n => s.withControl z fun k => { k with staleLimit := n }

/-- The monitor mode (R126), with the onset or lift it brings (R129). -/
def State.storeMonitorMode (s : State) (z : ZoneIx) (v : Word) : Option State :=
  (monModeOf v).map fun m => s.control (s.ctl.adjustMonitor z fun k => k.setMode m)

/-- The order warn low < warn high < shutdown (R125). -/
def Monitor.ordered (m : Monitor) : Bool := decide (m.warnLow < m.warnHigh) && decide (m.warnHigh < m.shutdown)

/-- A threshold write: the value in −128..383, and the order kept (R125). -/
def State.storeThreshold (s : State) (z : ZoneIx) (v : Word) (f : Int → Monitor → Monitor) : Option State :=
  match intIn (-128) 383 v with
  | some x => if (f x s.ctl.zones[z].monitor).ordered then some (s.withMonitor z (f x)) else none
  | none => none

/-- The hysteresis (R125). -/
def State.storeHysteresis (s : State) (z : ZoneIx) (v : Word) : Option State :=
  (natIn 0 31 v).map fun n => s.withMonitor z fun m => { m with hysteresis := n }

/-- The deglitch (R125). -/
def State.storeDeglitch (s : State) (z : ZoneIx) (v : Word) : Option State :=
  (natIn 1 8 v).map fun n => s.withMonitor z fun m => { m with deglitch := n }

/-- A write of a ZONE field. -/
def State.storeZone (s : State) (z : ZoneIx) (v : Word) : ZoneField → Option State
  | .ceiling => s.storeCeiling z v
  | .readWeight => s.storeReadWeight z v
  | .writeWeight => s.storeWriteWeight z v
  | .holdLimit => s.storeHoldLimit z v
  | .policy => s.storePolicy z v
  | .sensor => s.storeSensor z v
  | .configuredMode => s.storeMode z v
  | .openRate => s.storeOpenRate z v
  | .fallbackRate => s.storeFallbackRate z v
  | .setpoint => s.storeSetpoint z v
  | .kp => some (s.withControl z fun k => { k with kp := v.toNat })
  | .ki => some (s.withControl z fun k => { k with ki := v.toNat })
  | .kd => some (s.withControl z fun k => { k with kd := v.toNat })
  | .rateMin => s.storeRateMin z v
  | .rateMax => s.storeRateMax z v
  | .minSamples => s.storeMinSamples z v
  | .staleLimit => s.storeStaleLimit z v
  | .monitorMode => s.storeMonitorMode z v
  | .warnLow => s.storeThreshold z v fun x m => { m with warnLow := x }
  | .warnHigh => s.storeThreshold z v fun x m => { m with warnHigh := x }
  | .shutdown => s.storeThreshold z v fun x m => { m with shutdown := x }
  | .hysteresis => s.storeHysteresis z v
  | .deglitch => s.storeDeglitch z v
  | .credit _ | .longestHold | .sampleSum _ | .sampleCount | .staleRun | .e1 | .e2 | .u _ | .primed | .causes
  | .source | .rate | .warnLevel | .tripState | .overRun | .counter _ _ => none

/-! ### WINDOW fields -/

/-- A page number with one half written (R44, R51): HIGH holds 0..4095. -/
def pageWith (p : BitVec 28) (h : Half) (v : Word) : Option (BitVec 28) :=
  match h with
  | .high => if v.toNat ≤ 4095 then some (v.extractLsb' 0 12 ++ p.extractLsb' 0 16) else none
  | .low => some (p.extractLsb' 16 12 ++ v)

/-- A window record with a field written, if the value passes (R51, R52). -/
def Window.store (w : Window) (v : Word) : WindowField → Option Window
  | .enabled => (boolOf v).map fun b => { w with enabled := b }
  | .base h =>
    match pageWith w.basePage h v with
    | some p => if p.toNat ≤ w.limitPage.toNat then some { w with basePage := p } else none
    | none => none
  | .limit h =>
    match pageWith w.limitPage h v with
    | some p => if w.basePage.toNat ≤ p.toNat then some { w with limitPage := p } else none
    | none => none
  | .zone => (zoneOf v).map fun z => { w with zone := z }
  | .attr => (attributeOf v).map fun a => { w with attr := a }

/-- A write of a WINDOW field: it reaches no slot (R53). -/
def State.storeWindow (s : State) (w : WinIx) (v : Word) (f : WindowField) : Option State :=
  (s.ctl.windows[w].store v f).map fun r => s.withCtl { s.ctl with windows := put s.ctl.windows w r }

/-! ### CHANNEL fields -/

/-- A channel disabled: last valid and fault become no (R105). -/
def Channel.disabled (ch : Channel) : Channel :=
  if ch.enabled then { ch with enabled := false, lastValid := false, fault := false } else ch

/-- The conversion in progress when channel `ch` is disabled (R107). -/
def Conversion.spoilOf (ch : ChanIx) (v : Conversion) : Conversion := if v.channel = ch then v.spoil else v

/-- The enabled field of a channel (R105, R107). -/
def State.storeChannelEnabled (s : State) (ch : ChanIx) (v : Word) : Option State :=
  (boolOf v).map fun b =>
    if b then
      s.withCtl { s.ctl with channels := adjust s.ctl.channels ch fun r => { r with enabled := true } }
    else
      s.withCtl { s.ctl with
        channels := adjust s.ctl.channels ch Channel.disabled
        conversion := s.ctl.conversion.map (Conversion.spoilOf ch) }

/-- The divisor of a channel: 1, 2, 4 or 8 (R105). -/
def State.storeDivisor (s : State) (ch : ChanIx) (v : Word) : Option State :=
  if v = 1 ∨ v = 2 ∨ v = 4 ∨ v = 8 then
    some (s.withCtl { s.ctl with channels := adjust s.ctl.channels ch fun r => { r with divisor := v.toNat } })
  else none

/-- The offset of a channel (R105). -/
def State.storeOffset (s : State) (ch : ChanIx) (v : Word) : Option State :=
  (intIn (-32) 31 v).map fun x =>
    s.withCtl { s.ctl with channels := adjust s.ctl.channels ch fun r => { r with offset := x } }

/-- A write of a CHANNEL field. -/
def State.storeChannel (s : State) (ch : ChanIx) (v : Word) : ChannelField → Option State
  | .enabled => s.storeChannelEnabled ch v
  | .divisor => s.storeDivisor ch v
  | .offset => s.storeOffset ch v
  | .lastSample | .lastValid | .fault => none

/-! ### The checks and the frame -/

/-- A write of any field, once the checks before the value's are passed: `none` where the value is refused. -/
def State.storeField (s : State) (v : Word) : Field → Option State
  | .global f => s.storeGlobal v f
  | .zone z f => s.storeZone z v f
  | .window w f => s.storeWindow w v f
  | .channel c f => s.storeChannel c v f
  | .slot _ _ | .snapshot _ => none

/-- The checks of R165 between the field's existence and its value: the status on failure. -/
def State.gate (s : State) (f : Field) : Option Status :=
  match f.access with
  | .readOnly => some .invalid
  | .structural => if s.ctl.governor = .frozen then none else some .notFrozen
  | .live => none
  | .lease => if s.ctl.lease.state = .stopped then none else some .busy

/-- The end of a WRITE's work on the existing field `f`: its status, the field's value after it, and the pointer's
advance (R163, R165). -/
def written (f : Field) (st : Status) (s : State) : Reply :=
  { status := st, value := s.readField f, state := s.advance }

/-- WRITE on the existing field `f`, where `stored` is what the write does if the value passes (R165). -/
def State.writeTo (s : State) (f : Field) (stored : Option State) : Reply :=
  match s.gate f with
  | some st => written f st s
  | none =>
    match stored with
    | some s1 => written f .done s1
    | none => written f .invalid s

/-- WRITE's reply (R165). -/
def State.writeReply (s : State) (v : Word) : Reply :=
  match s.pointed with
  | some f => s.writeTo f (s.storeField v f)
  | none => { status := .invalid, value := 0, state := s.advance }

/-- WRITE (R165). -/
def execWrite (v : Word) (s : State) : Host.Outcome State Fault Refusal := s.frame fun s => s.writeReply v

/-! ### The WRITE frames named by their field

Each is the WRITE frame taken while the pointer stands at its field; with the pointer elsewhere the frame writes the
field pointed at (log entry 7). -/

/-- REFILL_PERIOD_WRITE (R60). -/
def execRefillPeriodWrite (v : Word) (s : State) : Host.Outcome State Fault Refusal :=
  s.frame fun s =>
    match s.pointed with
    | some (.global .refillPeriod) => s.writeTo (.global .refillPeriod) (s.storeRefillPeriod v)
    | _ => s.writeReply v

/-- CONTROL_DIVISOR_WRITE (R111). -/
def execControlDivisorWrite (v : Word) (s : State) : Host.Outcome State Fault Refusal :=
  s.frame fun s =>
    match s.pointed with
    | some (.global .controlDivisor) => s.writeTo (.global .controlDivisor) (s.storeControlDivisor v)
    | _ => s.writeReply v

/-- QUOTA_WRITE (R30). -/
def execQuotaWrite (v : Word) (s : State) : Host.Outcome State Fault Refusal :=
  s.frame fun s =>
    match s.pointed with
    | some (.global (.quota p)) => s.writeTo (.global (.quota p)) (s.storeQuota p v)
    | _ => s.writeReply v

/-- CEILING_WRITE (R72). -/
def execCeilingWrite (v : Word) (s : State) : Host.Outcome State Fault Refusal :=
  s.frame fun s =>
    match s.pointed with
    | some (.zone z .ceiling) => s.writeTo (.zone z .ceiling) (s.storeCeiling z v)
    | _ => s.writeReply v

/-- CONFIGURED_MODE_WRITE (R119). -/
def execConfiguredModeWrite (v : Word) (s : State) : Host.Outcome State Fault Refusal :=
  s.frame fun s =>
    match s.pointed with
    | some (.zone z .configuredMode) => s.writeTo (.zone z .configuredMode) (s.storeMode z v)
    | _ => s.writeReply v

/-- SENSOR_WRITE (R119). -/
def execSensorWrite (v : Word) (s : State) : Host.Outcome State Fault Refusal :=
  s.frame fun s =>
    match s.pointed with
    | some (.zone z .sensor) => s.writeTo (.zone z .sensor) (s.storeSensor z v)
    | _ => s.writeReply v

/-- OPEN_RATE_WRITE (R120). -/
def execOpenRateWrite (v : Word) (s : State) : Host.Outcome State Fault Refusal :=
  s.frame fun s =>
    match s.pointed with
    | some (.zone z .openRate) => s.writeTo (.zone z .openRate) (s.storeOpenRate z v)
    | _ => s.writeReply v

/-- FALLBACK_RATE_WRITE (R120). -/
def execFallbackRateWrite (v : Word) (s : State) : Host.Outcome State Fault Refusal :=
  s.frame fun s =>
    match s.pointed with
    | some (.zone z .fallbackRate) => s.writeTo (.zone z .fallbackRate) (s.storeFallbackRate z v)
    | _ => s.writeReply v

/-- RATE_MIN_WRITE (R121). -/
def execRateMinWrite (v : Word) (s : State) : Host.Outcome State Fault Refusal :=
  s.frame fun s =>
    match s.pointed with
    | some (.zone z .rateMin) => s.writeTo (.zone z .rateMin) (s.storeRateMin z v)
    | _ => s.writeReply v

/-- RATE_MAX_WRITE (R121). -/
def execRateMaxWrite (v : Word) (s : State) : Host.Outcome State Fault Refusal :=
  s.frame fun s =>
    match s.pointed with
    | some (.zone z .rateMax) => s.writeTo (.zone z .rateMax) (s.storeRateMax z v)
    | _ => s.writeReply v

/-- CHANNEL_ENABLE_WRITE (R105). -/
def execChannelEnableWrite (v : Word) (s : State) : Host.Outcome State Fault Refusal :=
  s.frame fun s =>
    match s.pointed with
    | some (.channel c .enabled) => s.writeTo (.channel c .enabled) (s.storeChannelEnabled c v)
    | _ => s.writeReply v

/-- MONITOR_MODE_WRITE (R126). -/
def execMonitorModeWrite (v : Word) (s : State) : Host.Outcome State Fault Refusal :=
  s.frame fun s =>
    match s.pointed with
    | some (.zone z .monitorMode) => s.writeTo (.zone z .monitorMode) (s.storeMonitorMode z v)
    | _ => s.writeReply v

/-- FENCE_SCOPE_WRITE (R129). -/
def execFenceScopeWrite (v : Word) (s : State) : Host.Outcome State Fault Refusal :=
  s.frame fun s =>
    match s.pointed with
    | some (.global .fenceScope) => s.writeTo (.global .fenceScope) (s.storeFenceScope v)
    | _ => s.writeReply v

/-- RAIL_MODE_WRITE (R136). -/
def execRailModeWrite (v : Word) (s : State) : Host.Outcome State Fault Refusal :=
  s.frame fun s =>
    match s.pointed with
    | some (.global .railMode) => s.writeTo (.global .railMode) (s.storeRailMode v)
    | _ => s.writeReply v

/-- SURGE_MODE_WRITE (R140). -/
def execSurgeModeWrite (v : Word) (s : State) : Host.Outcome State Fault Refusal :=
  s.frame fun s =>
    match s.pointed with
    | some (.global .surgeMode) => s.writeTo (.global .surgeMode) (s.storeSurgeMode v)
    | _ => s.writeReply v

/-- INDICATOR_SOURCE_WRITE (R175). -/
def execIndicatorSourceWrite (v : Word) (s : State) : Host.Outcome State Fault Refusal :=
  s.frame fun s =>
    match s.pointed with
    | some (.global .indicatorSource) => s.writeTo (.global .indicatorSource) (s.storeIndicatorSource v)
    | _ => s.writeReply v

/-- EVENT_MASK_WRITE (R169). -/
def execEventMaskWrite (v : Word) (s : State) : Host.Outcome State Fault Refusal :=
  s.frame fun s =>
    match s.pointed with
    | some (.global .eventMask) => s.writeTo (.global .eventMask) (s.storeEventMask v)
    | _ => s.writeReply v

end Sys2Proof.Machine
end

