-- ==== Sys2Proof/Machine/Dispatch.lean ====
section
/-! DEFINITION. `exec`: the meaning of each command, one arm per row of spec/opcode_table.json. -/

namespace Sys2Proof.Machine

def exec (i : Instr) (s : State) : Host.Outcome State Fault Refusal :=
  match i with
  | .powerOnReset => Sys2Proof.Machine.execPowerOnReset s
  | .resetNAssert => Sys2Proof.Machine.execResetNAssert s
  | .resetNRelease => Sys2Proof.Machine.execResetNRelease s
  | .requestOffer p r => Sys2Proof.Machine.execRequestOffer p r s
  | .requestTake p => Sys2Proof.Machine.execRequestTake p s
  | .memoryOffer => Sys2Proof.Machine.execMemoryOffer s
  | .memoryTake => Sys2Proof.Machine.execMemoryTake s
  | .memoryResponse m => Sys2Proof.Machine.execMemoryResponse m s
  | .responseOffer p => Sys2Proof.Machine.execResponseOffer p s
  | .delivery p => Sys2Proof.Machine.execDelivery p s
  | .refillTick => Sys2Proof.Machine.execRefillTick s
  | .ageTick => Sys2Proof.Machine.execAgeTick s
  | .cycleBoundary => Sys2Proof.Machine.execCycleBoundary s
  | .controlTick => Sys2Proof.Machine.execControlTick s
  | .conversionCompletion raw => Sys2Proof.Machine.execConversionCompletion raw s
  | .conversionFault => Sys2Proof.Machine.execConversionFault s
  | .emptyRoundEnd => Sys2Proof.Machine.execEmptyRoundEnd s
  | .railgoodFall => Sys2Proof.Machine.execRailgoodFall s
  | .railgoodRise => Sys2Proof.Machine.execRailgoodRise s
  | .railFilterExpiry => Sys2Proof.Machine.execRailFilterExpiry s
  | .surgeAssert => Sys2Proof.Machine.execSurgeAssert s
  | .surgeDeassert => Sys2Proof.Machine.execSurgeDeassert s
  | .surgeFilterExpiry => Sys2Proof.Machine.execSurgeFilterExpiry s
  | .leaseOpenTime => Sys2Proof.Machine.execLeaseOpenTime s
  | .leaseCloseTime => Sys2Proof.Machine.execLeaseCloseTime s
  | .frozenEntry => Sys2Proof.Machine.execFrozenEntry s
  | .frameError edges => Sys2Proof.Machine.execFrameError edges s
  | .nop => Sys2Proof.Machine.execNop s
  | .unknown code => Sys2Proof.Machine.execUnknown code s
  | .selectObject cls index => Sys2Proof.Machine.execSelectObject cls index s
  | .selectField field => Sys2Proof.Machine.execSelectField field s
  | .read => Sys2Proof.Machine.execRead s
  | .write v => Sys2Proof.Machine.execWrite v s
  | .refillPeriodWrite v => Sys2Proof.Machine.execRefillPeriodWrite v s
  | .controlDivisorWrite v => Sys2Proof.Machine.execControlDivisorWrite v s
  | .quotaWrite v => Sys2Proof.Machine.execQuotaWrite v s
  | .ceilingWrite v => Sys2Proof.Machine.execCeilingWrite v s
  | .configuredModeWrite v => Sys2Proof.Machine.execConfiguredModeWrite v s
  | .sensorWrite v => Sys2Proof.Machine.execSensorWrite v s
  | .openRateWrite v => Sys2Proof.Machine.execOpenRateWrite v s
  | .fallbackRateWrite v => Sys2Proof.Machine.execFallbackRateWrite v s
  | .rateMinWrite v => Sys2Proof.Machine.execRateMinWrite v s
  | .rateMaxWrite v => Sys2Proof.Machine.execRateMaxWrite v s
  | .channelEnableWrite v => Sys2Proof.Machine.execChannelEnableWrite v s
  | .monitorModeWrite v => Sys2Proof.Machine.execMonitorModeWrite v s
  | .fenceScopeWrite v => Sys2Proof.Machine.execFenceScopeWrite v s
  | .railModeWrite v => Sys2Proof.Machine.execRailModeWrite v s
  | .surgeModeWrite v => Sys2Proof.Machine.execSurgeModeWrite v s
  | .indicatorSourceWrite v => Sys2Proof.Machine.execIndicatorSourceWrite v s
  | .eventMaskWrite v => Sys2Proof.Machine.execEventMaskWrite v s
  | .clearFences => Sys2Proof.Machine.execClearFences s
  | .clearRail => Sys2Proof.Machine.execClearRail s
  | .clearSurge => Sys2Proof.Machine.execClearSurge s
  | .clearLease => Sys2Proof.Machine.execClearLease s
  | .drain => Sys2Proof.Machine.execDrain s
  | .resume => Sys2Proof.Machine.execResume s
  | .resetConfig => Sys2Proof.Machine.execResetConfig s
  | .leaseStart => Sys2Proof.Machine.execLeaseStart s
  | .leaseRenew => Sys2Proof.Machine.execLeaseRenew s
  | .leaseStop => Sys2Proof.Machine.execLeaseStop s
  | .snapshot arg v => Sys2Proof.Machine.execSnapshot arg v s
  | .readEvents => Sys2Proof.Machine.execReadEvents s
  | .csNAssert => Sys2Proof.Machine.execCsNAssert s
  | .powerOnCsNRelease => Sys2Proof.Machine.execPowerOnCsNRelease s
  | .clear mask => Sys2Proof.Machine.execClear mask s
  | .repetitionPeriodStart => Sys2Proof.Machine.execRepetitionPeriodStart s

end Sys2Proof.Machine
end

