-- ==== Sys2Proof/Machine/Step.lean ====
section
/-! DEFINITION. `step`: the command at the front of the queue; on an empty queue an expiry that waits, or else a
microsecond (log entry 3); and how a frame's bits reach the queue (R156, log entries 6 and 21). -/

namespace Sys2Proof.Machine

/-- A step on an empty queue: the next expiry that waits is taken, or dropped if it does not come any more; with none
waiting a microsecond passes. -/
def State.idle (s : State) : Host.Outcome State Fault Refusal :=
  match s.due with
  | c :: rest => if s.ctl.stillDue c then exec c { s with due := rest } else .next { s with due := rest }
  | [] => .next s.microsecond

/-- One step. -/
def step (s : State) : Host.Outcome State Fault Refusal :=
  match s.pending with
  | c :: rest => exec c { s with pending := rest }
  | [] => s.idle

/-- `s` with the command that a word spells put at the front of its queue: the 32 inbound bits of a frame (R156, log
entry 21). -/
def State.withFetchWord (s : State) (nbits w : Nat) : State :=
  match decodeTableWord nbits w with
  | some c => { s with pending := c :: s.pending }
  | none => s

/-- `s` with a whole frame at the front of its queue: the assertion of CS_N, then its release after these bits of SDI, one
for each rising edge of SCK (R156, R157, R159; log entry 6). -/
def State.withFrame (s : State) (sdi : List Bool) : State :=
  { s with pending := .csNAssert :: commandOfEdges sdi :: s.pending }

end Sys2Proof.Machine
end

