-- ==== Sys2Proof/Safety.lean ====
section
/-! DEFINITION. The properties that the spec says hold at every moment, as decidable propositions over State: table
structure, hold reasons, payment, pool, credit, and the control side. The statements in Certificates/ say that every
step keeps them. -/

namespace Sys2Proof.Safety

open Sys2Proof.Machine

/-! ### The transaction path -/

/-- R3, R4: the acceptance order holds each non-FREE slot once. -/
abbrev orderOk (t : Traffic) : Prop :=
  t.order.Nodup ∧ ∀ i : SlotIx, i ∈ t.order ↔ (t.slot i).state.isFree = false

/-- R7: the ready queue holds each READY slot once. -/
abbrev readyOk (t : Traffic) : Prop :=
  t.ready.Nodup ∧ ∀ i : SlotIx, i ∈ t.ready ↔ (t.slot i).state.isReady = true

/-- R37: the offered slot is the head of the ready queue. -/
abbrev memOfferOk (t : Traffic) : Prop := ∀ i : SlotIx, t.memOffer = some i → t.ready.head? = some i

/-- R39: a slot has response present yes exactly when it is matched to the response on the channel. -/
abbrev channelOk (t : Traffic) : Prop :=
  ∀ i : SlotIx, (t.slot i).state = .forwarded true ↔ t.memChannel.map Matched.slot = some i

/-- R39: memory has no response ready behind an empty channel. -/
abbrev backlogOk (t : Traffic) : Prop := t.memChannel = none → t.memBacklog = []

/-- R91: an offered slot heads its chain and is ANSWERING or FORWARDED with response present yes, by the offer's
kind. -/
abbrev offerOk (t : Traffic) (p : Port) (o : RespOffer) : Prop :=
  (t.slot o.slot).port = p ∧ t.isHead o.slot = true ∧
    (o.kind = .memory → (t.slot o.slot).state = .forwarded true) ∧
    (o.kind = .synthetic → (t.slot o.slot).state.isAnswering = true)

/-- R91 for a port's current offer. -/
abbrev respOk (t : Traffic) (p : Port) : Prop := ∀ o ∈ t.resps.get p, offerOk t p o

/-- R3: the structure of the table and of the three bus ports. -/
abbrev tableOk (t : Traffic) : Prop :=
  orderOk t ∧ readyOk t ∧ memOfferOk t ∧ channelOk t ∧ backlogOk t ∧ respOk t .a ∧ respOk t .b

/-- The slots older than slot `i`, oldest first. -/
def older (t : Traffic) (i : SlotIx) : List SlotIx := t.order.takeWhile fun j => decide (j ≠ i)

/-- An older slot of the same key is HELD. -/
def olderHeld (t : Traffic) (i : SlotIx) : Bool :=
  (older t i).any fun j => (t.slot j).state.isHeld && decide ((t.slot j).key = (t.slot i).key)

/-- The reasons and the age of a HELD slot. -/
def waitOf (t : Traffic) (i : SlotIx) : Option (Reasons × Nat) :=
  match (t.slot i).state with
  | .held r age => some (r, age)
  | .free | .ready | .forwarded _ | .answering _ => none

/-- R11, R17, R19, R63: the reasons of a HELD slot. -/
abbrev reasonsOk (c : Ctl) (t : Traffic) (i : SlotIx) (r : Reasons) : Prop :=
  r.isEmpty = false ∧ r.budget = !(t.slot i).paid ∧ r.order = olderHeld t i ∧ r.freeze = c.freezeActive ∧
    r.rail = c.railActive ∧ r.surge = c.surgeActive

/-- A slot on its way to memory: READY or FORWARDED. -/
def goesDown (s : Slot) : Bool := s.state.isReady || s.state.isForwarded

/-- R11, R17, R19, R63, R68: reasons, payment and ORDER of slot `i`. -/
abbrev slotOk (c : Ctl) (t : Traffic) (i : SlotIx) : Prop :=
  (∀ w ∈ waitOf t i, reasonsOk c t i w.1 ∧ w.2 ≤ 255 ∧ ((t.slot i).zone = none → (t.slot i).paid = true)) ∧
    (goesDown (t.slot i) = true → (t.slot i).paid = true ∧ olderHeld t i = false) ∧
    ((t.slot i).state.isAnswering = true → (t.slot i).paid = false)

/-- R11, R17, R19, R63 for every slot. -/
abbrev holdsOk (c : Ctl) (t : Traffic) : Prop := ∀ i : SlotIx, slotOk c t i

/-- R77: along the acceptance order no HELD slot is followed by one of greater age. -/
abbrev agesOk (t : Traffic) : Prop :=
  (t.order.filterMap (waitOf t)).Pairwise fun a b => b.2 ≤ a.2

/-- R130: no HELD slot belongs to a fenced zone. -/
abbrev fencesOk (c : Ctl) (t : Traffic) : Prop :=
  ∀ i : SlotIx, (t.slot i).state.isHeld = true → c.zoneFenced (t.slot i).zone = false

/-- R64: no zone's candidate costs at most the zone's credit. -/
abbrev paidUp (t : Traffic) : Prop :=
  ∀ z : ZoneIx, ∀ i ∈ t.candidate z, t.credit z < (t.slot i).cost

/-- The pool beats that a slot holds (R35). -/
def beatsHeld (s : Slot) : Nat :=
  match s.dir, s.state with
  | .write, .held _ _ | .write, .ready => s.length
  | .write, .free | .write, .forwarded _ | .write, .answering _ | .read, _ => 0

/-- R35: each slot's stored beats, and the pool's bound. -/
abbrev poolOk (t : Traffic) : Prop :=
  (∀ i : SlotIx, t.pool[i].length = beatsHeld (t.slot i)) ∧ t.poolInUse ≤ Config.poolBeats

/-- R26: every standing request is well formed. -/
abbrev standingOk (t : Traffic) : Prop :=
  (∀ o ∈ t.offers.a, o.req.wellFormed = true) ∧ ∀ o ∈ t.offers.b, o.req.wellFormed = true

/-- R31: a standing request cannot be taken. -/
abbrev stalledOk (c : Ctl) (t : Traffic) : Prop := t.takeable c .a = false ∧ t.takeable c .b = false

/-- R56: every credit lies between minus and plus its ceiling. -/
abbrev creditOk (c : Ctl) (t : Traffic) : Prop :=
  ∀ z : ZoneIx, -(c.zones[z].ceiling : Int) ≤ t.credit z ∧ t.credit z ≤ c.zones[z].ceiling

/-- R88: the longest-hold records are 0..255. -/
abbrev longestOk (t : Traffic) : Prop := ∀ z : ZoneIx, (t.account z).longestHold ≤ 255

/-- R37, R38: the memory port offers whenever it may. -/
abbrev offersMemory (c : Ctl) (t : Traffic) : Prop :=
  t.memOffer.isSome = (!t.ready.isEmpty && !c.railActive && !c.resetAsserted)

/-- R90, R92: a port with a deliverable head has a current offer. -/
abbrev offersResponse (c : Ctl) (t : Traffic) (p : Port) : Prop :=
  t.resps.get p = none → t.choice p = none ∨ c.resetAsserted = true

/-- R149, R150: FROZEN means that no slot is READY or FORWARDED, and DRAINING that one is. -/
abbrev governorOk (c : Ctl) (t : Traffic) : Prop :=
  (c.governor = .frozen → t.inFlight = 0) ∧ (c.governor = .draining → t.inFlight ≠ 0)

/-- R25: while RESET_N is asserted the table is empty. -/
abbrev resetOk (c : Ctl) (t : Traffic) : Prop :=
  c.resetAsserted = true → t.order = []

/-! ### The control side -/

/-- `x` lies in `lo..hi`. -/
abbrev within (lo hi x : Int) : Prop := lo ≤ x ∧ x ≤ hi

/-- R110, R117, R119, R121: a zone's control record. -/
abbrev controlOk (k : Control) : Prop :=
  (k.openRate ≤ 4095 ∧ k.fallbackRate ≤ 4095 ∧ within (-128) 383 k.setpoint ∧ k.kp ≤ 65535 ∧ k.ki ≤ 65535 ∧
    k.kd ≤ 65535 ∧ k.rateMin ≤ k.rateMax ∧ k.rateMax ≤ 4095 ∧ within 1 63 k.minSamples ∧ k.staleLimit ≤ 15) ∧
  (k.sampleCount ≤ 65535 ∧ within (-128 * k.sampleCount) (383 * k.sampleCount) k.sampleSum ∧ k.staleRun ≤ 15 ∧
    within (-511) 511 k.e1 ∧ within (-511) 511 k.e2 ∧ within (k.rateMin * 256) (k.rateMax * 256) k.u ∧
    k.rate ≤ 4095) ∧
  (k.source = k.wanted ∧ (k.source = .pi → k.rate = (k.u / 256).toNat) ∧
    (k.source = .openLoop → k.rate = k.openRate) ∧ (k.source = .fallback → k.rate = k.fallbackRate)) ∧
  (k.mode = .pi → k.sensor.isSome = true) ∧ (k.mode = .openLoop → k.staleRun = 0 ∧ k.causeStale = false) ∧
  (k.sensor = none → k.sampleSum = 0 ∧ k.sampleCount = 0)

/-- R124 to R128: a zone's monitor record. -/
abbrev monitorOk (m : Monitor) : Prop :=
  (within (-128) 383 m.warnLow ∧ within (-128) 383 m.warnHigh ∧ within (-128) 383 m.shutdown ∧
    m.warnLow < m.warnHigh ∧ m.warnHigh < m.shutdown ∧ m.hysteresis ≤ 31 ∧ within 1 8 m.deglitch ∧
    m.overRun ≤ 8) ∧
  (m.mode = .off → m.warnLevel = .none ∧ m.tripped = false ∧ m.overRun = 0)

/-- R56, R58, R78: a zone's settings. -/
abbrev settingsOk (z : ZoneRec) : Prop :=
  within 1 65535 z.ceiling ∧ within 1 15 z.readWeight ∧ within 1 15 z.writeWeight ∧ within 1 255 z.holdLimit

/-- R113, R174: the average handed to the indicator. -/
abbrev averageOk (z : ZoneRec) : Prop := ∀ a ∈ z.lastAverage, within (-128) 383 a

/-- R104, R105: a sensor channel. -/
abbrev channelRecOk (ch : Channel) : Prop :=
  (ch.divisor = 1 ∨ ch.divisor = 2 ∨ ch.divisor = 4 ∨ ch.divisor = 8) ∧ within (-32) 31 ch.offset ∧
    within (-128) 383 ch.lastSample ∧ (ch.enabled = false → ch.lastValid = false ∧ ch.fault = false) ∧
    (ch.fault = true → ch.lastValid = false)

/-- R52: a window. -/
abbrev windowOk (w : Window) : Prop := w.basePage.toNat ≤ w.limitPage.toNat

/-- The rail filter runs (R135). -/
def railFilters (st : RailState) : Bool :=
  match st with
  | .filtering _ => true
  | .idle | .good | .lost | .recoveredLatched => false

/-- The surge filter runs (R139). -/
def surgeFilters (st : SurgeState) : Bool :=
  match st with
  | .filtering _ => true
  | .idle | .armed | .tripped => false

/-- R134, R135: the rail monitor's state, its mode and RAILGOOD agree. -/
abbrev railOk (c : Ctl) : Prop :=
  (c.railState = .idle ↔ c.railMode = .off) ∧ (c.railState = .recoveredLatched → c.railMode = .latched) ∧
    (c.railState = .good ∨ c.railState = .recoveredLatched → c.railGood = true) ∧
    (c.railState = .lost ∨ railFilters c.railState = true → c.railGood = false) ∧ within 1 255 c.railFilter

/-- R138, R139: the surge monitor's state, its mode and SURGE agree. -/
abbrev surgeOk (c : Ctl) : Prop :=
  (c.surgeState = .idle ↔ c.surgeMode = .off) ∧ (c.surgeState = .armed → c.surgeAsserted = false) ∧
    (surgeFilters c.surgeState = true → c.surgeAsserted = true)

/-- R118, R143, R144, R147: the lease, and LEASE on the zones. -/
abbrev leaseOk (c : Ctl) : Prop :=
  (c.lease.openTime < c.lease.closeTime ∧ c.lease.closeTime ≤ 65535 ∧ c.lease.timer ≤ 65535 ∧
    c.lease.micros < 1000) ∧
  (c.lease.state = .stopped → c.lease.timer = 0) ∧ (c.lease.kind ≠ .none ↔ c.lease.state = .violated) ∧
  ∀ z : ZoneIx,
    c.zones[z].control.causeLease = decide (c.lease.state = .violated ∧ c.lease.response = .fallback)

/-- R60, R111: the two timers. -/
abbrev timersOk (c : Ctl) : Prop :=
  within 1 1023 c.refillPeriod ∧ within 1 255 c.controlDivisor ∧ c.refillElapsed < c.refillPeriod ∧
    c.controlElapsed < c.refillPeriod * c.controlDivisor

/-- R30, R78: the remaining GLOBAL settings. -/
abbrev globalsOk (c : Ctl) : Prop :=
  within 1 64 c.quotas.a ∧ within 1 64 c.quotas.b ∧ within 1 255 c.ungovernedLimit

/-- R174, R175: the indicator. -/
abbrev indicatorOk (c : Ctl) : Prop :=
  c.indicator.blanking ≤ 2 ∧ (c.indicator.blanking ≠ 0 → c.indicator.duty = .low) ∧
    c.indicator.duty.num ≤ c.indicator.duty.den

/-- R107: a conversion in progress. -/
abbrev conversionOk (c : Ctl) : Prop :=
  ∀ v ∈ c.conversion, within (-32) 31 v.offset ∧ (v.discard = false → c.channels[v.channel].enabled = true)

/-- Every record of the control side is in range and consistent. -/
abbrev ctlOk (c : Ctl) : Prop :=
  globalsOk c ∧ timersOk c ∧ (∀ w : WinIx, windowOk c.windows[w]) ∧ (∀ z : ZoneIx, settingsOk c.zones[z]) ∧
    (∀ z : ZoneIx, controlOk c.zones[z].control) ∧ (∀ z : ZoneIx, monitorOk c.zones[z].monitor) ∧
    (∀ z : ZoneIx, averageOk c.zones[z]) ∧ (∀ ch : ChanIx, channelRecOk c.channels[ch]) ∧ conversionOk c ∧ railOk c ∧ surgeOk c ∧ leaseOk c ∧
    indicatorOk c

/-- R176: the link waits for a release of CS_N only while CS_N is asserted, and then no frame is in progress. -/
abbrev linkOk (l : Link) : Prop :=
  (l.awaitRelease = true → l.csAsserted = true ∧ l.outbound = none) ∧
    (l.outbound.isSome = true → l.csAsserted = true)

/-! ### Together -/

/-- What the spec says holds of the transaction path between two commands. -/
abbrev pathOk (c : Ctl) (t : Traffic) : Prop :=
  tableOk t ∧ holdsOk c t ∧ agesOk t ∧ fencesOk c t ∧ paidUp t ∧ poolOk t ∧ standingOk t ∧ longestOk t ∧ resetOk c t

/-- What the spec says the blocks do as soon as they can. -/
abbrev promptOk (c : Ctl) (t : Traffic) : Prop :=
  stalledOk c t ∧ offersMemory c t ∧ offersResponse c t .a ∧ offersResponse c t .b ∧ governorOk c t

end Sys2Proof.Safety
end

