-- ==== Sys2Proof/Certificates/Slice0/Obligations.lean ====
section
/-! DEFINITION. The statements for the provers. -/

namespace Sys2Proof.Claims

open Sys2Proof.Machine

/-- The link after a valid frame that reports `st` with value `v` (R157). -/
def frameEnd (l : Link) (st : Status) (v : Word) : Link :=
  { l with status := st, value := v, frameCount := l.frameCount + 1, csAsserted := false, outbound := none }

/-- The link after a READ or WRITE frame, which also raises the pointer's field (R157, R163). -/
def fieldFrameEnd (l : Link) (st : Status) (v : Word) : Link := { frameEnd l st v with field := l.field + 1 }

/-- A state that takes frames: it does not wait for the release of a CS_N asserted at power-on (R176). -/
abbrev takesFrames (s : State) : Prop := s.link.awaitRelease = false

/-- The commands that end a valid frame (section 10.2). -/
def isFrame : Instr → Bool
  | .nop | .unknown _ | .selectObject _ _ | .selectField _ | .read | .write _ | .refillPeriodWrite _
  | .controlDivisorWrite _ | .quotaWrite _ | .ceilingWrite _ | .configuredModeWrite _ | .sensorWrite _
  | .openRateWrite _ | .fallbackRateWrite _ | .rateMinWrite _ | .rateMaxWrite _ | .channelEnableWrite _
  | .monitorModeWrite _ | .fenceScopeWrite _ | .railModeWrite _ | .surgeModeWrite _ | .indicatorSourceWrite _
  | .eventMaskWrite _ | .clearFences | .clearRail | .clearSurge | .clearLease | .drain | .resume | .resetConfig
  | .leaseStart | .leaseRenew | .leaseStop | .snapshot _ _ | .readEvents | .clear _ => true
  | .powerOnReset | .resetNAssert | .resetNRelease | .requestOffer _ _ | .requestTake _ | .memoryOffer | .memoryTake
  | .memoryResponse _ | .responseOffer _ | .delivery _ | .refillTick | .ageTick | .cycleBoundary | .controlTick
  | .conversionCompletion _ | .conversionFault | .emptyRoundEnd | .railgoodFall | .railgoodRise
  | .railFilterExpiry | .surgeAssert | .surgeDeassert | .surgeFilterExpiry | .leaseOpenTime | .leaseCloseTime
  | .frozenEntry | .frameError _ | .csNAssert | .powerOnCsNRelease | .repetitionPeriodStart => false

/-- The class code and index of an object (R163). -/
def nameOf : ObjRef → Nat × Nat
  | .global => (0, 0)
  | .zone z => (1, z.val)
  | .window w => (2, w.val)
  | .channel c => (3, c.val)
  | .slot i => (4, i.val)
  | .snapshot => (5, 0)

/-- The reactions of the blocks at the end of an event find nothing to do: the READY slots are in the ready queue, the
memory port and the arbiters offer what they may (R7, R37, R92). Every state that a run reaches is so
(`Obligations.PromptStatesStayPrompt`). -/
abbrev settled (s : State) : Prop :=
  Safety.readyOk s.traffic ∧ Safety.offersMemory s.ctl s.traffic ∧
    Safety.offersResponse s.ctl s.traffic .a ∧ Safety.offersResponse s.ctl s.traffic .b

/-- The cost of a request (R57). -/
def costOf (c : Ctl) (zone : ZoneRef) (r : Request) : Nat :=
  match zone, r.dir with
  | none, _ => 0
  | some z, .read => r.length * c.zones[z].readWeight
  | some z, .write => r.length * c.zones[z].writeWeight

/-- The set with no reason in it. -/
def noReason : Reasons := { budget := false, order := false, freeze := false, rail := false, surge := false }

/-- The hold reasons that a new request collects (R34). -/
def reasonsOf (c : Ctl) (t : Traffic) (k : Key) (paid : Bool) : Reasons :=
  { budget := !paid
    order := t.order.any fun j => (t.slot j).state.isHeld && decide ((t.slot j).key = k)
    freeze := decide (c.governor ≠ .run)
    rail := decide (c.railState = .lost ∨ c.railState = .recoveredLatched)
    surge := decide (c.surgeState = .tripped) }

/-- The credit unit pays a request at intake (R62). -/
def paysNow (t : Traffic) (zone : ZoneRef) (cost : Nat) : Prop :=
  ∀ z ∈ zone,
    (∀ j ∈ t.order, (t.slot j).state.isHeld = true → (t.slot j).zone = some z → (t.slot j).paid = true) ∧
      (cost : Int) ≤ t.credit z

/-- `u` is `t` with slot `i` created from request `r` of port `p` with lookup `l` (R10). -/
def created (p : Port) (r : Request) (l : Lookup) (i : SlotIx) (t u : Traffic) : Prop :=
  ((u.slot i).port = p ∧ (u.slot i).id = r.id ∧ (u.slot i).dir = r.dir ∧ (u.slot i).beatAddr = r.beatAddr ∧
    (u.slot i).length = r.length ∧ (u.slot i).window = l.window ∧ (u.slot i).zone = l.zone ∧
    (u.slot i).forced = false) ∧
  (∀ j, j ≠ i → u.slot j = t.slot j ∧ u.pool[j] = t.pool[j]) ∧ u.order = t.order ++ [i] ∧ u.offers = t.offers ∧
    u.nextWinner = t.nextWinner ∧ u.memOffer = t.memOffer ∧ u.memChannel = t.memChannel ∧
    u.memBacklog = t.memBacklog ∧ u.resps = t.resps ∧ u.intakeStalls = t.intakeStalls ∧ u.orphans = t.orphans

/-- A READ_ONLY window forbids writes, a BLOCKED one both directions (R33). -/
def forbidden (a : Attribute) (d : Dir) : Prop := a = .blocked ∨ (a = .readOnly ∧ d = .write)

/-- `i` is the lowest-numbered FREE slot (R1). -/
def lowestFree (t : Traffic) (i : SlotIx) : Prop :=
  (t.slot i).state = .free ∧ ∀ j, j < i → (t.slot j).state ≠ .free

/-- No slot is FREE. -/
def tableFull (t : Traffic) : Prop := ∀ j, (t.slot j).state ≠ .free

/-- R30: room for a request of port `p`. -/
def hasRoom (c : Ctl) (t : Traffic) (p : Port) (r : Request) : Prop :=
  t.occupancy < 64 ∧ t.portOccupancy p < c.quotas.get p ∧ (r.dir = .write → t.poolInUse + r.length ≤ 256) ∧
    c.resetAsserted = false

/-- `u` is `t` with the counters of `zone` changed by `f` and nothing else; UNGOVERNED counts nowhere (R171). -/
def counted (zone : ZoneRef) (f : ZoneCounters → ZoneCounters) (t : Traffic) (z : ZoneIx) : ZoneCounters :=
  if zone = some z then f (t.account z).counters else (t.account z).counters

/-- The path after a failed examination of the offer `o` of port `p` (R31). -/
def stalled (p : Port) (o : StandingOffer) (t u : Traffic) : Prop :=
  ∃ f, u = { t with
      offers := t.offers.set p (some { o with counted := true })
      intakeStalls := if o.counted then t.intakeStalls else satAdd t.intakeStalls 1
      flags := f } ∧
    (tableFull t → f = t.flags ||| Event.tableFull.mask) ∧ (¬ tableFull t → f = t.flags)

/-- The path after the intake unit took the offer of port `p` (R10, R33). -/
def taken (c : Ctl) (p : Port) (t u : Traffic) : Prop :=
  ∃ o i, t.offers.get p = some o ∧ lowestFree t i ∧
    u = Traffic.create c p o.req i { t with offers := t.offers.set p none }

/-- The path after the examination of the offer of port `p` alone (R31). -/
def examined (c : Ctl) (p : Port) (t u : Traffic) : Prop :=
  (t.offers.get p = none ∧ u = t) ∨
    ∃ o, t.offers.get p = some o ∧ (hasRoom c t p o.req → taken c p t u) ∧ (¬ hasRoom c t p o.req → stalled p o t u)

/-- The order of the queue after the slots that became READY have joined it (R7, R12). -/
def joined (t : Traffic) : List SlotIx :=
  t.ready ++ t.order.filter fun i => (t.slot i).state.isReady && !t.ready.contains i

/-- The offer on the memory request channel once the memory port has acted (R37, R38). -/
def offeredToMemory (c : Ctl) (t : Traffic) : Option SlotIx :=
  match t.memOffer with
  | some i => some i
  | none => if c.railActive = true ∨ c.resetAsserted = true then none else t.ready.head?

/-- The current offer of port `p` once its arbiter has acted (R92, R93). -/
def offeredTo (c : Ctl) (t : Traffic) (p : Port) : Option RespOffer :=
  match t.resps.get p with
  | some o => some o
  | none => if c.resetAsserted = true then none else t.choice p

/-- A response of `n` data beats: what memory gave, with the missing ones filled with zeros (R40). -/
def beatsOf (n : Nat) (data : List Beat) : List Beat := (List.range n).map fun k => data.getD k 0

/-- A slot with a hold's reason present or absent if it is HELD, and unchanged otherwise (R20, R21). -/
def withHold (h : Hold) (b : Bool) (s : Slot) : Slot :=
  match s.state with
  | .held r age =>
    let r1 : Reasons :=
      { r with
        freeze := if h = .freeze then b else r.freeze
        rail := if h = .rail then b else r.rail
        surge := if h = .surge then b else r.surge }
    { s with state := .held r1 age }
  | .free | .ready | .forwarded _ | .answering _ => s

/-- The slots of the acceptance order that come before `i` and are HELD with its key (R17). -/
abbrev heldBefore (t : Traffic) (i : SlotIx) : Bool := Safety.olderHeld t i

/-- A slot paid by a payment attempt: without BUDGET, paid (R63, R64). -/
def paidSlot (s : Slot) : Slot :=
  match s.state with
  | .held r age => { s with state := .held { r with budget := false } age, paid := true }
  | .free | .ready | .forwarded _ | .answering _ => s

/-- A slot an age tick later, before the expiries (R76). -/
def agedSlot (s : Slot) : Slot :=
  match s.state with
  | .held r age =>
    { s with state := .held r (if r.freeze = true then age else if age < 255 then age + 1 else 255) }
  | .free | .ready | .forwarded _ | .answering _ => s

/-- The hold limit that judges a slot of `zone` (R78). -/
def limitFor (c : Ctl) (zone : ZoneRef) : Nat :=
  match zone with
  | some z => c.zones[z].holdLimit
  | none => c.ungovernedLimit

/-- The slot is HELD at or above its limit (R79). -/
def dueToExpire (c : Ctl) (s : Slot) : Bool :=
  match s.state with
  | .held _ age => decide (limitFor c s.zone ≤ age)
  | .free | .ready | .forwarded _ | .answering _ => false

/-- An expiring slot with these reasons is forced: exactly BUDGET, under FORCE, in a governed zone (R78, R80). -/
def isForced (c : Ctl) (s : Slot) (r : Reasons) : Prop :=
  r = { budget := true, order := false, freeze := false, rail := false, surge := false } ∧
    ∃ z, s.zone = some z ∧ c.zones[z].policy = .force

/-- The credit of zone `z` after a refund of the slot (R68). -/
def refunded (c : Ctl) (s : Slot) (t : Traffic) (z : ZoneIx) : Int :=
  if s.zone = some z ∧ s.paid = true then min (t.credit z + s.cost) c.zones[z].ceiling else t.credit z

/-- The longest-hold record of zone `z` after a slot of age `age` left the held list (R88). -/
def longestAfter (s : Slot) (age : Nat) (t : Traffic) (z : ZoneIx) : Nat :=
  if s.zone = some z then max (t.account z).longestHold age else (t.account z).longestHold

/-- The responses that memory offers or has ready: the one on the channel, then those behind it. -/
def owed (t : Traffic) : List MemResponse := (t.memChannel.map Matched.resp).toList ++ t.memBacklog

/-- The age with which slot `i` of zone `z` left the held list between `t` and `u`, `none` if it did not (R88). -/
def ageLeaving (t u : Traffic) (z : ZoneIx) (i : SlotIx) : Option Nat :=
  match (t.slot i).state with
  | .held _ age => if (t.slot i).zone = some z ∧ (u.slot i).state.isHeld = false then some age else none
  | .free | .ready | .forwarded _ | .answering _ => none

/-- The event flags with one raised on a condition (R168). -/
def flagsWith (b : Bool) (e : Event) (f : BitVec 16) : BitVec 16 := if b then f ||| e.mask else f

/-- A control-side event that raises at most one flag, changes the control side to `c` and lets the table follow. -/
def follows (s : State) (e : Option Event) (c : Ctl) : State :=
  ({ s with traffic := match e with
      | some e => { s.traffic with flags := s.traffic.flags ||| e.mask }
      | none => s.traffic } : State).control c

/-- The state of the machine with control side `c` after a frame that reports `st` and `v`, nothing else changed. -/
def frameWith (s : State) (c : Ctl) (st : Status) (v : Word) : State :=
  { s with ctl := c, link := frameEnd s.link st v }

/-- `u` with its link at the end of a frame that reports `st` and `v` (R157). -/
def ends (u : State) (st : Status) (v : Word) : State := { u with link := frameEnd u.link st v }

/-- The rate controller enters the source that causes and configured mode call for, if it is another (R117). -/
def entered (k : Control) : Control :=
  let want : Source := if k.causeStale = true ∨ k.causeLease = true then .fallback else
    match k.mode with
    | .pi => .pi
    | .openLoop => .openLoop
  if want = k.source then k
  else match want with
    | .openLoop => { k with source := .openLoop, rate := k.openRate }
    | .fallback => { k with source := .fallback, rate := k.fallbackRate }
    | .pi =>
      let x : Int := k.rate * 256
      let u : Int := if x < k.rateMin * 256 then k.rateMin * 256 else if k.rateMax * 256 < x then k.rateMax * 256 else x
      { k with source := .pi, u := u, rate := (u / 256).toNat, primed := false }

/-- The zone records with the control record of zone `z` replaced. -/
def controlOf (c : Ctl) (z : ZoneIx) (k : Control) : Ctl :=
  { c with zones := c.zones.set z.val { c.zones[z] with control := k } z.isLt }

/-- The zone records with the monitor record of zone `z` replaced. -/
def monitorOf (c : Ctl) (z : ZoneIx) (m : Monitor) : Ctl :=
  { c with zones := c.zones.set z.val { c.zones[z] with monitor := m } z.isLt }

/-- Channel `ch` is due in round `r` (R106). -/
def dueIn (c : Ctl) (r : BitVec 8) (ch : ChanIx) : Prop :=
  c.channels[ch].enabled = true ∧ r.toNat % c.channels[ch].divisor = 0

/-- `v` is the conversion that the scanner starts among the due channels numbered `low` or above, `none` if there is
none (R106, R107). -/
def picks (c : Ctl) (r : BitVec 8) (low : Nat) (v : Option Conversion) : Prop :=
  (∀ n, low ≤ n.val → dueIn c r n → (∀ m, low ≤ m.val → m < n → ¬ dueIn c r m) →
    v = some { channel := n, offset := c.channels[n].offset, discard := false }) ∧
  ((∀ n, low ≤ n.val → ¬ dueIn c r n) → v = none)

/-- The round and the conversion after the conversion of channel `ch` (R106). -/
def scansOn (c : Ctl) (ch : ChanIx) (r : BitVec 8) (v : Option Conversion) : Prop :=
  ((∃ n, ch < n ∧ dueIn c c.scanRound n) → r = c.scanRound ∧ picks c c.scanRound (ch.val + 1) v) ∧
  ((∀ n, ch < n → ¬ dueIn c c.scanRound n) → r = c.scanRound + 1 ∧ picks c (c.scanRound + 1) 0 v)

/-- `x` brought into −128..383 (R108). -/
def halfDegrees (x : Int) : Int := max (-128) (min 383 x)

/-- The columns of R127's table from the left, numbered 0 to 4: the first that fits the sample decides. -/
def warnColumn (m : Monitor) (x : Int) : Nat :=
  if x ≥ m.warnHigh then 0
  else if x ≥ m.warnHigh - m.hysteresis then 1
  else if x ≥ m.warnLow then 2
  else if x ≥ m.warnLow - m.hysteresis then 3
  else 4

/-- The duty that the indicator's source gives (R174). -/
def dutyOf (c : Ctl) (t : Traffic) : Duty :=
  match c.indicator.source with
  | .off => { num := 0, den := 1 }
  | .zoneRate z => { num := c.zones[z].control.rate, den := 4095 }
  | .zoneTemp z =>
    match c.zones[z].lastAverage with
    | some a => { num := (a + 128).toNat, den := 511 }
    | none => { num := 0, den := 1 }
  | .occupancy => { num := (List.finRange 64).countP fun i => decide ((t.slot i).state ≠ .free), den := 64 }

/-- R127's table: the warn level from the level before and the column. -/
def warnTable : WarnLevel → Nat → WarnLevel
  | _, 0 => .high
  | .none, 1 => .low
  | .low, 1 => .low
  | .high, 1 => .high
  | _, 2 => .low
  | .none, 3 => .none
  | .low, 3 => .low
  | .high, 3 => .low
  | _, _ => .none

/-- A monitor after a sample in WARN, CYCLE or LATCHED mode (R127, R128). -/
def monitorAfter (m : Monitor) (x : Int) : Monitor :=
  let run := if x ≥ m.shutdown then min 8 (m.overRun + 1) else 0
  { m with
    warnLevel := warnTable m.warnLevel (warnColumn m x)
    overRun := run
    tripped := if run ≥ m.deglitch then true else m.tripped }

/-- A zone record after a sample of channel `ch` (R108, R112, R126). -/
def sampledZone (ch : ChanIx) (x : Int) (z : ZoneRec) : ZoneRec :=
  if z.control.sensor = some ch then
    { z with
      control := if z.control.sampleCount = 65535 then z.control
        else { z.control with sampleSum := z.control.sampleSum + x, sampleCount := z.control.sampleCount + 1 }
      monitor := if z.monitor.mode = .off then z.monitor else monitorAfter z.monitor x }
  else z

/-- The change of the warn level is a rise (R127). -/
def warnRises (a b : WarnLevel) : Prop :=
  (a = .none ∧ b = .low) ∨ (a = .low ∧ b = .high) ∨ (a = .none ∧ b = .high)

/-- The lease is violated with kind `k` and its timer at `n` (R147). -/
def violated (s : State) (k : ViolationKind) (n us : Nat) : State :=
  { s with
    traffic := { s.traffic with flags := s.traffic.flags ||| Event.leaseViolation.mask }
    ctl := { s.ctl with
      lease := { s.ctl.lease with state := .violated, kind := k, timer := n, micros := us }
      zones := if s.ctl.lease.response = .fallback then
          s.ctl.zones.map fun z => { z with control := entered { z.control with causeLease := true } }
        else s.ctl.zones } }

/-- The lease record of a lease that starts or is renewed now (R145, R146). -/
def startedLease (l : Lease) : Lease :=
  { l with state := if l.openTime = 0 then .openWindow else .waiting, timer := 0, micros := 0 }

/-- A slot after step 2 of re-resolution, under control side `c` (R153). -/
def lookedUpAgain (c : Ctl) (s : Slot) : Slot :=
  let l := c.lookup (pageOf s.beatAddr)
  { s with
    window := l.window
    zone := l.zone
    cost := match l.zone, s.dir with
      | none, _ => 0
      | some z, .read => s.length * c.zones[z].readWeight
      | some z, .write => s.length * c.zones[z].writeWeight
    paid := decide (l.zone = none) }

/-- The reasons of a slot after step 4 of re-resolution, where ORDER still stands on every one and the re-evaluation
that follows takes it off (R17, R153). -/
def reasonedAgain (s : Slot) : Slot :=
  match s.state with
  | .held r age =>
    let r1 : Reasons := { r with freeze := false, budget := decide (s.zone ≠ none ∧ s.paid = false), order := true }
    { s with state := .held r1 age }
  | .free | .ready | .forwarded _ | .answering _ => s

/-- The number of fields of an object's class (section 10.4). -/
def fieldCount : ObjRef → Nat
  | .global => 33
  | .zone _ => 57
  | .window _ => 7
  | .channel _ => 6
  | .slot _ => 17
  | .snapshot => 18

/-- A number that is 1 for yes and 0 for no. -/
def yes (b : Bool) : Int := if b then 1 else 0

/-- Half of a split value: HIGH is what stands above its 16 lowest bits, LOW these bits (R44, R166). -/
def halfValue (x : Int) : Half → Int
  | .high => x / 65536
  | .low => x % 65536

/-- A zone or channel number, 8 for UNGOVERNED or NONE. -/
def numberOr8 : Option (Fin 8) → Int
  | some z => z.val
  | none => 8

/-- The fields of an object in the order of their numbers, from 0 (section 10.4). -/
def catalogue : ObjRef → List Field
  | .global => [GlobalField.governorState, .totalOccupancy, .occupancy .a, .occupancy .b, .poolBeats, .quota .a,
      .quota .b, .refillPeriod, .controlDivisor, .ungovernedLimit, .fenceScope, .railMode, .railFilter, .railState,
      .surgeMode, .surgeFilter, .surgeState, .leaseOpen, .leaseClose, .leaseResponse, .leaseState, .leaseTimer,
      .violationKind, .eventMask, .eventFlags, .indicatorSource, .scanRound, .intakeStalls .high,
      .intakeStalls .low, .orphans .high, .orphans .low, .frameErrors .high, .frameErrors .low].map .global
  | .zone z => [ZoneField.credit .high, .credit .low, .ceiling, .readWeight, .writeWeight, .holdLimit, .policy,
      .longestHold, .sensor, .configuredMode, .openRate, .fallbackRate, .setpoint, .kp, .ki, .kd, .rateMin, .rateMax,
      .minSamples, .staleLimit, .sampleSum .high, .sampleSum .low, .sampleCount, .staleRun, .e1, .e2, .u .high,
      .u .low, .primed, .causes, .source, .rate, .monitorMode, .warnLow, .warnHigh, .shutdown, .hysteresis, .deglitch,
      .warnLevel, .tripState, .overRun, .counter .admittedRequests .high, .counter .admittedRequests .low,
      .counter .admittedBeats .high, .counter .admittedBeats .low, .counter .heldRequests .high,
      .counter .heldRequests .low, .counter .expired .high, .counter .expired .low, .counter .forced .high,
      .counter .forced .low, .counter .fencedAnswers .high, .counter .fencedAnswers .low,
      .counter .refusedAnswers .high, .counter .refusedAnswers .low, .counter .memoryErrors .high,
      .counter .memoryErrors .low].map (.zone z)
  | .window w => [WindowField.enabled, .base .high, .base .low, .limit .high, .limit .low, .zone, .attr].map (.window w)
  | .channel c => [ChannelField.enabled, .divisor, .offset, .lastSample, .lastValid, .fault].map (.channel c)
  | .slot i => [SlotField.state, .port, .id, .direction, .page .high, .page .low, .beat, .length, .window, .zone, .cost,
      .paid, .forced, .reasons, .age, .answerStatus, .responsePresent].map (.slot i)
  | .snapshot => [SnapshotField.zone, .counter .admittedRequests .high, .counter .admittedRequests .low,
      .counter .admittedBeats .high, .counter .admittedBeats .low, .counter .heldRequests .high,
      .counter .heldRequests .low, .counter .expired .high, .counter .expired .low, .counter .forced .high,
      .counter .forced .low, .counter .fencedAnswers .high, .counter .fencedAnswers .low,
      .counter .refusedAnswers .high, .counter .refusedAnswers .low, .counter .memoryErrors .high,
      .counter .memoryErrors .low, .longestHold].map .snapshot

/-- A zone counter by its name in section 10.4. -/
def counterValue (k : ZoneCounters) : CounterName → Int
  | .admittedRequests => k.admittedRequests.toNat
  | .admittedBeats => k.admittedBeats.toNat
  | .heldRequests => k.heldRequests.toNat
  | .expired => k.expired.toNat
  | .forced => k.forced.toNat
  | .fencedAnswers => k.fencedAnswers.toNat
  | .refusedAnswers => k.refusedAnswers.toNat
  | .memoryErrors => k.memoryErrors.toNat

/-- The value of a GLOBAL field in the encoding of section 10.4. -/
def globalValue (s : State) : GlobalField → Int
  | .governorState => match s.ctl.governor with
    | .run => 0
    | .draining => 1
    | .frozen => 2
  | .totalOccupancy => (List.finRange 64).countP fun i => decide ((s.traffic.slot i).state ≠ .free)
  | .occupancy p => (List.finRange 64).countP fun i =>
      decide ((s.traffic.slot i).state ≠ .free ∧ (s.traffic.slot i).port = p)
  | .poolBeats => ((List.finRange 64).map fun i => s.traffic.pool[i].length).sum
  | .quota p => s.ctl.quotas.get p
  | .refillPeriod => s.ctl.refillPeriod
  | .controlDivisor => s.ctl.controlDivisor
  | .ungovernedLimit => s.ctl.ungovernedLimit
  | .fenceScope => yes s.ctl.scopeAll
  | .railMode => match s.ctl.railMode with
    | .off => 0
    | .auto => 1
    | .latched => 2
  | .railFilter => s.ctl.railFilter
  | .railState => match s.ctl.railState with
    | .idle => 0
    | .good => 1
    | .filtering _ => 2
    | .lost => 3
    | .recoveredLatched => 4
  | .surgeMode => match s.ctl.surgeMode with
    | .off => 0
    | .cycle => 1
    | .latched => 2
  | .surgeFilter => match s.ctl.surgeFilter with
    | .none => 0
    | .us1 => 1
    | .us4 => 2
    | .us16 => 3
  | .surgeState => match s.ctl.surgeState with
    | .idle => 0
    | .armed => 1
    | .filtering _ => 2
    | .tripped => 3
  | .leaseOpen => s.ctl.lease.openTime
  | .leaseClose => s.ctl.lease.closeTime
  | .leaseResponse => match s.ctl.lease.response with
    | .report => 0
    | .fallback => 1
  | .leaseState => match s.ctl.lease.state with
    | .stopped => 0
    | .waiting => 1
    | .openWindow => 2
    | .violated => 3
  | .leaseTimer => s.ctl.lease.timer
  | .violationKind => match s.ctl.lease.kind with
    | .none => 0
    | .early => 1
    | .late => 2
  | .eventMask => s.ctl.eventMask.toNat
  | .eventFlags => s.traffic.flags.toNat
  | .indicatorSource => match s.ctl.indicator.source with
    | .off => 0
    | .zoneRate z => 8 + z.val
    | .zoneTemp z => 16 + z.val
    | .occupancy => 24
  | .scanRound => s.ctl.scanRound.toNat
  | .intakeStalls h => halfValue s.traffic.intakeStalls.toNat h
  | .orphans h => halfValue s.traffic.orphans.toNat h
  | .frameErrors h => halfValue s.link.frameErrors.toNat h

/-- The value of a ZONE field in the encoding of section 10.4. -/
def zoneValue (r : ZoneRec) (a : Account) : ZoneField → Int
  | .credit h => halfValue a.credit h
  | .ceiling => r.ceiling
  | .readWeight => r.readWeight
  | .writeWeight => r.writeWeight
  | .holdLimit => r.holdLimit
  | .policy => match r.policy with
    | .abort => 0
    | .force => 1
  | .longestHold => a.longestHold
  | .sensor => numberOr8 r.control.sensor
  | .configuredMode => match r.control.mode with
    | .openLoop => 0
    | .pi => 1
  | .openRate => r.control.openRate
  | .fallbackRate => r.control.fallbackRate
  | .setpoint => r.control.setpoint
  | .kp => r.control.kp
  | .ki => r.control.ki
  | .kd => r.control.kd
  | .rateMin => r.control.rateMin
  | .rateMax => r.control.rateMax
  | .minSamples => r.control.minSamples
  | .staleLimit => r.control.staleLimit
  | .sampleSum h => halfValue r.control.sampleSum h
  | .sampleCount => r.control.sampleCount
  | .staleRun => r.control.staleRun
  | .e1 => r.control.e1
  | .e2 => r.control.e2
  | .u h => halfValue r.control.u h
  | .primed => yes r.control.primed
  | .causes => yes r.control.causeStale + 2 * yes r.control.causeLease
  | .source => match r.control.source with
    | .openLoop => 0
    | .pi => 1
    | .fallback => 2
  | .rate => r.control.rate
  | .monitorMode => match r.monitor.mode with
    | .off => 0
    | .warn => 1
    | .cycle => 2
    | .latched => 3
  | .warnLow => r.monitor.warnLow
  | .warnHigh => r.monitor.warnHigh
  | .shutdown => r.monitor.shutdown
  | .hysteresis => r.monitor.hysteresis
  | .deglitch => r.monitor.deglitch
  | .warnLevel => match r.monitor.warnLevel with
    | .none => 0
    | .low => 1
    | .high => 2
  | .tripState => yes r.monitor.tripped
  | .overRun => r.monitor.overRun
  | .counter k h => halfValue (counterValue a.counters k) h

/-- The value of a WINDOW field in the encoding of section 10.4. -/
def windowValue (w : Window) : WindowField → Int
  | .enabled => yes w.enabled
  | .base h => halfValue w.basePage.toNat h
  | .limit h => halfValue w.limitPage.toNat h
  | .zone => numberOr8 w.zone
  | .attr => match w.attr with
    | .readWrite => 0
    | .readOnly => 1
    | .blocked => 2

/-- The value of a CHANNEL field in the encoding of section 10.4. -/
def channelValue (c : Channel) : ChannelField → Int
  | .enabled => yes c.enabled
  | .divisor => c.divisor
  | .offset => c.offset
  | .lastSample => c.lastSample
  | .lastValid => yes c.lastValid
  | .fault => yes c.fault

/-- The value of a SLOT field in the encoding of section 10.4, 65535 where the slot's state lacks it (R166). -/
def slotValue (s : Slot) : SlotField → Int
  | .state => match s.state with
    | .free => 0
    | .held _ _ => 1
    | .ready => 2
    | .forwarded _ => 3
    | .answering _ => 4
  | .port => match s.port with
    | .a => 0
    | .b => 1
  | .id => s.id.val
  | .direction => match s.dir with
    | .read => 0
    | .write => 1
  | .page h => halfValue ((byteAddr s.beatAddr).toNat / 4096) h
  | .beat => (byteAddr s.beatAddr).toNat / 16 % 256
  | .length => s.length
  | .window => match s.window with
    | some w => w.val
    | none => 16
  | .zone => numberOr8 s.zone
  | .cost => s.cost
  | .paid => yes s.paid
  | .forced => yes s.forced
  | .reasons => match s.state with
    | .held r _ => yes r.budget + 2 * yes r.order + 4 * yes r.freeze + 8 * yes r.rail + 16 * yes r.surge
    | .free | .ready | .forwarded _ | .answering _ => 65535
  | .age => match s.state with
    | .held _ age => age
    | .free | .ready | .forwarded _ | .answering _ => 65535
  | .answerStatus => match s.state with
    | .answering .fenced => 0
    | .answering .expired => 1
    | .answering .refused => 2
    | .free | .held _ _ | .ready | .forwarded _ => 65535
  | .responsePresent => match s.state with
    | .forwarded b => yes b
    | .free | .held _ _ | .ready | .answering _ => 65535

/-- The value of a SNAPSHOT field in the encoding of section 10.4. -/
def snapshotValue (s : Snapshot) : SnapshotField → Int
  | .zone => numberOr8 s.zone
  | .counter k h => halfValue (counterValue s.counters k) h
  | .longestHold => s.longestHold

/-- The value of a field in the encoding of section 10.4, before it is brought to 16 bits. -/
def fieldValue (s : State) : Field → Int
  | .global f => globalValue s f
  | .zone z f => zoneValue s.ctl.zones[z] (s.traffic.account z) f
  | .window w f => windowValue s.ctl.windows[w] f
  | .channel c f => channelValue s.ctl.channels[c] f
  | .slot i f => slotValue (s.traffic.slot i) f
  | .snapshot f => snapshotValue s.ctl.snapshot f

/-- A value of `lo..hi`. -/
def between (lo hi : Nat) (v : Word) : Prop := lo ≤ v.toNat ∧ v.toNat ≤ hi

/-- A two's complement value of `lo..hi` (R166). -/
def signedBetween (lo hi : Int) (v : Word) : Prop := lo ≤ v.toInt ∧ v.toInt ≤ hi

/-- The values that a writable GLOBAL field takes (R30, R60, R78, R111, R125, R134, R138, R144, R169, R174). -/
def globalTakes (c : Ctl) (v : Word) : GlobalField → Prop
  | .quota _ => between 1 64 v
  | .refillPeriod => between 1 1023 v
  | .controlDivisor | .ungovernedLimit | .railFilter => between 1 255 v
  | .fenceScope | .leaseResponse => between 0 1 v
  | .railMode | .surgeMode => between 0 2 v
  | .surgeFilter => between 0 3 v
  | .leaseOpen => between 0 65534 v ∧ v.toNat < c.lease.closeTime
  | .leaseClose => between 1 65535 v ∧ c.lease.openTime < v.toNat
  | .eventMask => True
  | .indicatorSource => v = 0 ∨ between 8 15 v ∨ between 16 23 v ∨ v = 24
  | .governorState | .totalOccupancy | .occupancy _ | .poolBeats | .railState | .surgeState | .leaseState
  | .leaseTimer | .violationKind | .eventFlags | .scanRound | .intakeStalls _ | .orphans _ | .frameErrors _ => False

/-- The values that a writable ZONE field takes (R58, R72, R78, R119, R120, R121, R122, R125). -/
def zoneTakes (r : ZoneRec) (v : Word) : ZoneField → Prop
  | .ceiling => between 1 65535 v
  | .readWeight | .writeWeight => between 1 15 v
  | .holdLimit => between 1 255 v
  | .policy => between 0 1 v
  | .sensor => between 0 7 v ∨ (v = 8 ∧ r.control.mode ≠ .pi)
  | .configuredMode => v = 0 ∨ (v = 1 ∧ r.control.sensor ≠ none)
  | .openRate | .fallbackRate => between 0 4095 v
  | .setpoint => signedBetween (-128) 383 v
  | .kp | .ki | .kd => True
  | .rateMin => between 0 4095 v ∧ v.toNat ≤ r.control.rateMax
  | .rateMax => between 0 4095 v ∧ r.control.rateMin ≤ v.toNat
  | .minSamples => between 1 63 v
  | .staleLimit => between 0 15 v
  | .monitorMode => between 0 3 v
  | .warnLow =>
    signedBetween (-128) 383 v ∧ v.toInt < r.monitor.warnHigh ∧ r.monitor.warnHigh < r.monitor.shutdown
  | .warnHigh => signedBetween (-128) 383 v ∧ r.monitor.warnLow < v.toInt ∧ v.toInt < r.monitor.shutdown
  | .shutdown =>
    signedBetween (-128) 383 v ∧ r.monitor.warnLow < r.monitor.warnHigh ∧ r.monitor.warnHigh < v.toInt
  | .hysteresis => between 0 31 v
  | .deglitch => between 1 8 v
  | .credit _ | .longestHold | .sampleSum _ | .sampleCount | .staleRun | .e1 | .e2 | .u _ | .primed | .causes
  | .source | .rate | .warnLevel | .tripState | .overRun | .counter _ _ => False

/-- The values that a WINDOW field takes: the page numbers that the write would produce keep base at or below limit
(R44, R51, R52). -/
def windowTakes (w : Window) (v : Word) : WindowField → Prop
  | .enabled => between 0 1 v
  | .base .high =>
    between 0 4095 v ∧ v.toNat * 65536 + w.basePage.toNat % 65536 ≤ w.limitPage.toNat
  | .base .low => w.basePage.toNat / 65536 * 65536 + v.toNat ≤ w.limitPage.toNat
  | .limit .high =>
    between 0 4095 v ∧ w.basePage.toNat ≤ v.toNat * 65536 + w.limitPage.toNat % 65536
  | .limit .low => w.basePage.toNat ≤ w.limitPage.toNat / 65536 * 65536 + v.toNat
  | .zone => between 0 8 v
  | .attr => between 0 2 v

/-- The values that a CHANNEL field takes (R105). -/
def channelTakes (v : Word) : ChannelField → Prop
  | .enabled => between 0 1 v
  | .divisor => v = 1 ∨ v = 2 ∨ v = 4 ∨ v = 8
  | .offset => signedBetween (-32) 31 v
  | .lastSample | .lastValid | .fault => False

/-- The values that a field takes. -/
def fieldTakes (s : State) (v : Word) : Field → Prop
  | .global f => globalTakes s.ctl v f
  | .zone z f => zoneTakes s.ctl.zones[z] v f
  | .window w f => windowTakes s.ctl.windows[w] v f
  | .channel _ f => channelTakes v f
  | .slot _ _ | .snapshot _ => False

/-- The structural fields (R154). -/
def isStructural : Field → Prop
  | .global (.quota _) | .window _ _ | .zone _ .readWeight | .zone _ .writeWeight | .zone _ .sensor
  | .channel _ .enabled | .channel _ .divisor => True
  | _ => False

/-- The lease fields (R144). -/
def isLeaseTerm : Field → Prop
  | .global .leaseOpen | .global .leaseClose | .global .leaseResponse => True
  | _ => False

/-- The fields marked RO in section 10.4, and every field of the SLOT and SNAPSHOT classes (R165). -/
def isReadOnly : Field → Prop
  | .global f => f = .governorState ∨ f = .totalOccupancy ∨ (∃ p, f = .occupancy p) ∨ f = .poolBeats ∨
      f = .railState ∨ f = .surgeState ∨ f = .leaseState ∨ f = .leaseTimer ∨ f = .violationKind ∨ f = .eventFlags ∨
      f = .scanRound ∨ (∃ h, f = .intakeStalls h) ∨ (∃ h, f = .orphans h) ∨ ∃ h, f = .frameErrors h
  | .zone _ f => (∃ h, f = .credit h) ∨ f = .longestHold ∨ (∃ h, f = .sampleSum h) ∨ f = .sampleCount ∨
      f = .staleRun ∨ f = .e1 ∨ f = .e2 ∨ (∃ h, f = .u h) ∨ f = .primed ∨ f = .causes ∨ f = .source ∨ f = .rate ∨
      f = .warnLevel ∨ f = .tripState ∨ f = .overRun ∨ ∃ k h, f = .counter k h
  | .window _ _ => False
  | .channel _ f => f = .lastSample ∨ f = .lastValid ∨ f = .fault
  | .slot _ _ | .snapshot _ => True

/-- The fields whose accepted write changes that field and no other readable one, and nothing on the transaction path
(R53, R58, R60, R78, R87, R105, R111, R122, R125, R134, R138, R144, R169, R175). -/
def isPlain : Field → Prop
  | .global f => f = .refillPeriod ∨ f = .controlDivisor ∨ f = .ungovernedLimit ∨ f = .railFilter ∨
      f = .surgeFilter ∨ f = .leaseOpen ∨ f = .leaseClose ∨ f = .leaseResponse ∨ f = .eventMask ∨
      f = .indicatorSource
  | .zone _ f => f = .readWeight ∨ f = .writeWeight ∨ f = .holdLimit ∨ f = .policy ∨ f = .setpoint ∨ f = .kp ∨
      f = .ki ∨ f = .kd ∨ f = .minSamples ∨ f = .staleLimit ∨ f = .warnLow ∨ f = .warnHigh ∨ f = .shutdown ∨
      f = .hysteresis ∨ f = .deglitch
  | .window _ _ => True
  | .channel _ f => f = .divisor ∨ f = .offset
  | .slot _ _ | .snapshot _ => False

/-- A zone's record `s` with the settings that plain writes reach taken from `t`. -/
def settingsFrom (t s : ZoneRec) : ZoneRec :=
  { s with
    readWeight := t.readWeight
    writeWeight := t.writeWeight
    holdLimit := t.holdLimit
    policy := t.policy
    control := { s.control with
      setpoint := t.control.setpoint
      kp := t.control.kp
      ki := t.control.ki
      kd := t.control.kd
      minSamples := t.control.minSamples
      staleLimit := t.control.staleLimit }
    monitor := { s.monitor with
      warnLow := t.monitor.warnLow
      warnHigh := t.monitor.warnHigh
      shutdown := t.monitor.shutdown
      hysteresis := t.monitor.hysteresis
      deglitch := t.monitor.deglitch } }

/-- The expiry `c` that waits still comes: its filter or the lease timer still stands at its end (R135, R139, R145 to
R148). A tick comes unless its timer's restart has undone it (R60, R111). -/
def comes (c : Ctl) (i : Instr) : Prop :=
  (i = .railFilterExpiry → c.railState = .filtering 0) ∧ (i = .surgeFilterExpiry → c.surgeState = .filtering 0) ∧
    (i = .leaseOpenTime → c.lease.state = .waiting ∧ c.lease.openTime ≤ c.lease.timer) ∧
    (i = .leaseCloseTime → c.lease.state = .openWindow ∧ c.lease.closeTime ≤ c.lease.timer)

/-- The expiries that wait after a write of the control divisor: no control tick (R111, R123). -/
def noControlTick (due : List Instr) : List Instr := due.filter fun c => decide (c ≠ .controlTick)

/-- The expiries that wait after a write of the refill period or RESET_CONFIG: no control tick, and none of the refill timer's three
events where none of them has been taken (R60, R74, R123; log entry 31). -/
def noTimerExpiry (due : List Instr) : List Instr :=
  if .refillTick ∈ due ∧ .ageTick ∈ due ∧ .cycleBoundary ∈ due then
    due.filter fun c => decide (c ≠ .refillTick ∧ c ≠ .ageTick ∧ c ≠ .cycleBoundary ∧ c ≠ .controlTick)
  else noControlTick due

/-- The rows named by the field they write, with that field (section 10.4). -/
def namesField (i : Instr) (f : Field) (v : Word) : Prop :=
  (i = .refillPeriodWrite v ∧ f = .global .refillPeriod) ∨
  (i = .controlDivisorWrite v ∧ f = .global .controlDivisor) ∨
  (i = .quotaWrite v ∧ ∃ p, f = .global (.quota p)) ∨
  (i = .ceilingWrite v ∧ ∃ z, f = .zone z .ceiling) ∨
  (i = .configuredModeWrite v ∧ ∃ z, f = .zone z .configuredMode) ∨
  (i = .sensorWrite v ∧ ∃ z, f = .zone z .sensor) ∨
  (i = .openRateWrite v ∧ ∃ z, f = .zone z .openRate) ∨
  (i = .fallbackRateWrite v ∧ ∃ z, f = .zone z .fallbackRate) ∨
  (i = .rateMinWrite v ∧ ∃ z, f = .zone z .rateMin) ∨
  (i = .rateMaxWrite v ∧ ∃ z, f = .zone z .rateMax) ∨
  (i = .channelEnableWrite v ∧ ∃ c, f = .channel c .enabled) ∨
  (i = .monitorModeWrite v ∧ ∃ z, f = .zone z .monitorMode) ∨
  (i = .fenceScopeWrite v ∧ f = .global .fenceScope) ∨
  (i = .railModeWrite v ∧ f = .global .railMode) ∨
  (i = .surgeModeWrite v ∧ f = .global .surgeMode) ∨
  (i = .indicatorSourceWrite v ∧ f = .global .indicatorSource) ∨
  (i = .eventMaskWrite v ∧ f = .global .eventMask)

/-- The state that takes frames with its pointer at field number `n` of object `o`. -/
abbrev pointsAt (s : State) (o : ObjRef) (n : BitVec 8) : Prop :=
  takesFrames s ∧ s.link.object = o ∧ s.link.field = n

/-- The end of an accepted WRITE that brought the machine to `u` and left the field reading `v` (R157, R163, R165). -/
def accepted (u : State) (v : Word) : State := { u with link := fieldFrameEnd u.link .done v }

/-- Zone `z` has a fencing trip (R129). -/
def fencingTrip (c : Ctl) (z : ZoneIx) : Prop :=
  c.zones[z].monitor.tripped = true ∧ (c.zones[z].monitor.mode = .cycle ∨ c.zones[z].monitor.mode = .latched)

/-- The trip of a zone that CLEAR releases: last valid, and last sample below shutdown − hysteresis (R132). -/
def clearReleases (c : Ctl) (z : ZoneIx) : Prop :=
  c.zones[z].monitor.tripped = true ∧ ∃ ch, c.zones[z].control.sensor = some ch ∧
    c.channels[ch].lastValid = true ∧
    c.channels[ch].lastSample < c.zones[z].monitor.shutdown - c.zones[z].monitor.hysteresis

end Sys2Proof.Claims

open Sys2Proof Sys2Proof.Machine Sys2Proof.Safety Sys2Proof.Claims

/-! ### The queue and the clock -/

/-- The model's queue (log entries 1 and 3): the command at the front is taken, and the rest stays. A word of 32 bits put
at the front is the inbound bits of a frame (R156; log entry 21), and a step runs the command they carry; a word of
another width changes nothing. -/
def Obligations.StepTakesTheFrontCommand : Prop :=
  (∀ (c : Instr) (rest : List Instr) (s : State),
    step { s with pending := c :: rest } = exec c { s with pending := rest }) ∧
  (∀ (w : BitVec 32) (s : State), step (s.withFetchWord 32 w.toNat) = exec (commandOfFrame w) s) ∧
  ∀ (nbits w : Nat) (s : State), nbits ≠ 32 → s.withFetchWord nbits w = s

/-- Every well-formed command answers a next state in every state and leaves the waiting commands alone, and of the expiries
that wait it takes some away at most, where a frame or power-on reset restarts a timer; an ill-formed term is refused
(log entry 20). -/
def Obligations.EveryCommandCompletes : Prop :=
  ∀ (c : Instr) (s : State),
    (c.wellFormed = true → ∃ t, exec c s = .next t ∧ t.pending = s.pending ∧ t.freeCount = s.freeCount ∧
      t.due.Sublist s.due ∧ (isFrame c = false → c ≠ .powerOnReset → t.due = s.due)) ∧
      (c.wellFormed = false → exec c s = .refused .illFormed)

/-- A step on an empty queue (log entry 3, the model's choice) takes the next expiry that waits, if its timer still stands
at its end, or drops it; with none waiting it is one microsecond: timers count as R60, R111, R135, R139 and R143 say, each
expiry waits as its command once, in an order left open (log entry 4), and path, link and queue are not touched. -/
def Obligations.MicrosecondMakesExpiriesDue : Prop :=
  ∀ s : State, s.pending = [] →
    (∀ c rest, s.due = c :: rest →
      (comes s.ctl c → step s = exec c { s with due := rest }) ∧
      (¬ comes s.ctl c → step s = .next { s with due := rest })) ∧
    (s.due = [] → ∃ t, step s = .next t ∧ t.traffic = s.traffic ∧ t.link = s.link ∧ t.pending = [] ∧
    t.ctl = { s.ctl with
      refillElapsed := if s.ctl.refillPeriod ≤ s.ctl.refillElapsed + 1 then 0 else s.ctl.refillElapsed + 1
      controlElapsed :=
        if s.ctl.refillPeriod * s.ctl.controlDivisor ≤ s.ctl.controlElapsed + 1 then 0 else s.ctl.controlElapsed + 1
      railState := t.ctl.railState
      surgeState := t.ctl.surgeState
      lease := { s.ctl.lease with timer := t.ctl.lease.timer, micros := t.ctl.lease.micros } } ∧
    (∀ n, s.ctl.railState = .filtering n → t.ctl.railState = .filtering (n - 1)) ∧
    ((∀ n, s.ctl.railState ≠ .filtering n) → t.ctl.railState = s.ctl.railState) ∧
    (∀ n, s.ctl.surgeState = .filtering n → t.ctl.surgeState = .filtering (n - 1)) ∧
    ((∀ n, s.ctl.surgeState ≠ .filtering n) → t.ctl.surgeState = s.ctl.surgeState) ∧
    (s.ctl.lease.state = .stopped ∨ s.ctl.lease.state = .violated → t.ctl.lease = s.ctl.lease) ∧
    (s.ctl.lease.state = .waiting ∨ s.ctl.lease.state = .openWindow →
      (s.ctl.lease.micros < 999 →
        t.ctl.lease.micros = s.ctl.lease.micros + 1 ∧ t.ctl.lease.timer = s.ctl.lease.timer) ∧
      (999 ≤ s.ctl.lease.micros →
        t.ctl.lease.micros = 0 ∧ t.ctl.lease.timer = min 65535 (s.ctl.lease.timer + 1))) ∧
    (∀ c ∈ [Instr.refillTick, .ageTick, .cycleBoundary],
      t.due.count c = if s.ctl.refillPeriod ≤ s.ctl.refillElapsed + 1 then 1 else 0) ∧
    (t.due.count .controlTick =
      if s.ctl.refillPeriod * s.ctl.controlDivisor ≤ s.ctl.controlElapsed + 1 then 1 else 0) ∧
    (t.due.count .railFilterExpiry = if t.ctl.railState = .filtering 0 then 1 else 0) ∧
    (t.due.count .surgeFilterExpiry = if t.ctl.surgeState = .filtering 0 then 1 else 0) ∧
    (t.due.count .leaseOpenTime =
      if s.ctl.lease.state = .waiting ∧ s.ctl.lease.openTime ≤ t.ctl.lease.timer then 1 else 0) ∧
    (t.due.count .leaseCloseTime =
      if s.ctl.lease.state = .openWindow ∧ s.ctl.lease.closeTime ≤ t.ctl.lease.timer then 1 else 0) ∧
    ∀ c ∈ t.due, c ∈ [Instr.refillTick, .ageTick, .cycleBoundary, .controlTick, .railFilterExpiry,
      .surgeFilterExpiry, .leaseOpenTime, .leaseCloseTime])

/-! ### Resets -/

/-- R24: the table at power-on reset. -/
def Obligations.TableIsEmptyAtReset : Prop :=
  (∀ i : SlotIx, State.reset.traffic.slot i =
    { state := .free, port := .a, id := 0, dir := .read, beatAddr := 0, length := 1, window := none, zone := some 0,
      cost := 0, paid := false, forced := false }) ∧
  State.reset.traffic.heldList = [] ∧ State.reset.traffic.ready = [] ∧
  (∀ k : Key, State.reset.traffic.chain k = []) ∧ State.reset.traffic.forwardedSet = [] ∧
  State.reset.traffic.answeringSet = [] ∧ State.reset.traffic.order = [] ∧ State.reset.traffic.occupancy = 0 ∧
  (∀ p : Port, State.reset.traffic.portOccupancy p = 0) ∧ State.reset.traffic.inFlight = 0 ∧
  (∀ h : Hold, State.reset.ctl.holdActive h = false) ∧ State.reset.ctl.governor = .run ∧
  State.reset.ctl.railMode = .off ∧ State.reset.ctl.surgeMode = .off ∧
  ∀ (p : Port) (r : Request), r.wellFormed = true →
    ∃ t, exec (.requestOffer p r) State.reset = .next t ∧ t.traffic.order = [0]

/-- Every invariant of the model holds right after reset. -/
def Obligations.ResetMeetsTheInvariants : Prop :=
  pathOk State.reset.ctl State.reset.traffic ∧ promptOk State.reset.ctl State.reset.traffic ∧
    creditOk State.reset.ctl State.reset.traffic ∧ ctlOk State.reset.ctl ∧ linkOk State.reset.link

/-- R176: POWER_ON_RESET starts every block from its power-on values; the pins and the standing offers are the board's and
the responses that memory owes are counted as orphans (log entry 12, the model's choice), a CS_N asserted then is waited
for, and the requests standing at the ports, as newly appeared, are examined at once; while RESET_N is asserted they stay
and nothing is taken. -/
def Obligations.PowerOnResetStartsEveryBlock : Prop :=
  ∀ s : State,
    let b : Traffic := { State.reset.traffic with
      offers :=
        { a := s.traffic.offers.a.map fun o => { o with counted := false }
          b := s.traffic.offers.b.map fun o => { o with counted := false } }
      orphans := satAdd 0 (owed s.traffic).length
      flags := if owed s.traffic = [] then 0 else Event.orphanResponse.mask }
    ∃ t, exec .powerOnReset s = .next t ∧
    t.ctl = { State.reset.ctl with
      resetAsserted := s.ctl.resetAsserted, railGood := s.ctl.railGood, surgeAsserted := s.ctl.surgeAsserted } ∧
    t.link = { State.reset.link with csAsserted := s.link.csAsserted, awaitRelease := s.link.csAsserted } ∧
    (s.traffic.offers = { a := none, b := none } → s.traffic.memChannel = none → s.traffic.memBacklog = [] →
      t.traffic = State.reset.traffic) ∧
    t = ({ s with ctl := t.ctl, link := t.link, due := [], traffic := b } : State).onPath (b.examineBoth t.ctl) ∧
    (s.ctl.resetAsserted = true → t.traffic = b) ∧
    (standingOk s.traffic → s.ctl.resetAsserted = false →
      t.traffic.offers = { a := none, b := none } ∧ t.traffic.intakeStalls = 0)

/-- R25, R42, R73: the assertion of RESET_N; an assertion of a RESET_N already asserted is no event (log entry 2). -/
def Obligations.LinkResetEmptiesTheTable : Prop :=
  ∀ s : State,
    (s.ctl.resetAsserted = true → exec .resetNAssert s = .next s) ∧
    (s.ctl.resetAsserted = false → ∃ t, exec .resetNAssert s = .next t ∧
      t.link = s.link ∧ t.ctl = { s.ctl with resetAsserted := true, governor := .run } ∧
      (∀ i, t.traffic.slot i = { s.traffic.slot i with state := .free }) ∧
      t.traffic.order = [] ∧ t.traffic.ready = [] ∧ (∀ k, t.traffic.chain k = []) ∧
      (∀ i : SlotIx, t.traffic.pool[i] = []) ∧ t.traffic.poolInUse = 0 ∧ t.traffic.occupancy = 0 ∧
      t.traffic.nextWinner = .a ∧ t.traffic.memOffer = none ∧ t.traffic.memChannel = none ∧
      t.traffic.memBacklog = [] ∧ t.traffic.resps = { a := none, b := none } ∧
      t.traffic.offers = s.traffic.offers ∧
      (∀ z, t.traffic.account z = { s.traffic.account z with credit := s.ctl.zones[z].ceiling }) ∧
      t.traffic.intakeStalls = s.traffic.intakeStalls ∧
      t.traffic.orphans = satAdd s.traffic.orphans (owed s.traffic).length ∧
      t.traffic.flags =
        if owed s.traffic = [] then s.traffic.flags else s.traffic.flags ||| Event.orphanResponse.mask)

/-- R31, R32, R43: at the release of RESET_N intake resumes and examines the standing offers; one is taken into slot 0,
two are taken together, port A's first, in slots 0 and 1, and none stalls. A release of a RESET_N that is not asserted is
no event (log entry 2, the model's choice). -/
def Obligations.LinkResetReleaseResumesIntake : Prop :=
  ∀ s : State,
    (s.ctl.resetAsserted = false → exec .resetNRelease s = .next s) ∧
    (s.ctl.resetAsserted = true → ∃ t, exec .resetNRelease s = .next t ∧ t.link = s.link ∧
      t.ctl = { s.ctl with resetAsserted := false } ∧
      t = ({ s with ctl := t.ctl } : State).onPath (s.traffic.examineBoth t.ctl) ∧
      (s.traffic.offers = { a := none, b := none } → t.traffic.order = s.traffic.order ∧
        t.traffic.slots = s.traffic.slots ∧ t.traffic.intakeStalls = s.traffic.intakeStalls) ∧
      (pathOk s.ctl s.traffic → globalsOk s.ctl →
        ∀ p x, s.traffic.offers.get p = some x → s.traffic.offers.get (otherPort p) = none →
          t.traffic.offers = { a := none, b := none } ∧ t.traffic.order = [0] ∧
          (t.traffic.slot 0).key = { port := p, id := x.req.id } ∧
          t.traffic.nextWinner = s.traffic.nextWinner ∧ t.traffic.intakeStalls = s.traffic.intakeStalls) ∧
      (pathOk s.ctl s.traffic → globalsOk s.ctl → s.traffic.nextWinner = .a →
        ∀ x y, s.traffic.offers = { a := some x, b := some y } →
          t.traffic.offers = { a := none, b := none } ∧ t.traffic.order = [0, 1] ∧
          (t.traffic.slot 0).key = { port := .a, id := x.req.id } ∧
          (t.traffic.slot 1).key = { port := .b, id := y.req.id } ∧ t.traffic.nextWinner = .a ∧
          t.traffic.intakeStalls = s.traffic.intakeStalls))

/-! ### Intake, the window map and the pool (Chapters 2 and 3) -/

/-- R45, R46: the page is the byte address divided by 4096; among the enabled windows that cover it the lowest index
wins, and an unmapped page gives NONE, zone 0, READ_WRITE. -/
def Obligations.LowestMatchingWindowWins : Prop :=
  ∀ (c : Ctl) (a : BitVec 36),
    (pageOf a).toNat = (byteAddr a).toNat / 4096 ∧
    (∀ w : WinIx,
      (c.windows[w].enabled = true ∧ c.windows[w].basePage.toNat ≤ (pageOf a).toNat ∧
        (pageOf a).toNat ≤ c.windows[w].limitPage.toNat) →
      (∀ v : WinIx, v < w → ¬ (c.windows[v].enabled = true ∧ c.windows[v].basePage.toNat ≤ (pageOf a).toNat ∧
        (pageOf a).toNat ≤ c.windows[v].limitPage.toNat)) →
      c.lookup (pageOf a) = { window := some w, zone := c.windows[w].zone, attr := c.windows[w].attr }) ∧
    ((∀ v : WinIx, ¬ (c.windows[v].enabled = true ∧ c.windows[v].basePage.toNat ≤ (pageOf a).toNat ∧
        (pageOf a).toNat ≤ c.windows[v].limitPage.toNat)) →
      c.lookup (pageOf a) = { window := none, zone := some 0, attr := .readWrite })

/-- R10, R33, R34, R57, R62: the slot that a taken request becomes, and everything its creation changes. -/
def Obligations.TakenRequestIsClassified : Prop :=
  ∀ (c : Ctl) (p : Port) (r : Request) (i : SlotIx) (t : Traffic),
    let l := c.lookup (pageOf r.beatAddr)
    let u := t.create c p r i
    created p r l i t u ∧
    (forbidden l.attr r.dir →
      (u.slot i).state = .answering .refused ∧ (u.slot i).cost = 0 ∧ (u.slot i).paid = false ∧ u.pool[i] = [] ∧
        u.ready = t.ready ∧ u.flags = t.flags ||| Event.refusedAccess.mask ∧
        ∀ z, u.account z = { t.account z with
          counters := counted l.zone (fun k => { k with refusedAnswers := satAdd k.refusedAnswers 1 }) t z }) ∧
    (¬ forbidden l.attr r.dir → (∃ z, l.zone = some z ∧ c.fenced z = true) →
      (u.slot i).state = .answering .fenced ∧ (u.slot i).cost = 0 ∧ (u.slot i).paid = false ∧ u.pool[i] = [] ∧
        u.ready = t.ready ∧ u.flags = t.flags ∧
        ∀ z, u.account z = { t.account z with
          counters := counted l.zone (fun k => { k with fencedAnswers := satAdd k.fencedAnswers 1 }) t z }) ∧
    (¬ forbidden l.attr r.dir → (∀ z, l.zone = some z → c.fenced z = false) →
      ∃ paid : Bool, (paid = true ↔ paysNow t l.zone (costOf c l.zone r)) ∧
        (u.slot i).cost = costOf c l.zone r ∧ (u.slot i).paid = paid ∧ u.pool[i] = r.data ∧ u.flags = t.flags ∧
        (∀ z, (u.account z).credit =
          if l.zone = some z ∧ paid = true then t.credit z - costOf c l.zone r else t.credit z) ∧
        (∀ z, (u.account z).longestHold = (t.account z).longestHold) ∧
        (reasonsOf c t { port := p, id := r.id } paid = noReason →
          (u.slot i).state = .ready ∧ u.ready = t.ready ++ [i] ∧
            ∀ z, (u.account z).counters = (t.account z).counters) ∧
        (reasonsOf c t { port := p, id := r.id } paid ≠ noReason →
          (u.slot i).state = .held (reasonsOf c t { port := p, id := r.id } paid) 0 ∧ u.ready = t.ready ∧
            ∀ z, (u.account z).counters =
              counted l.zone (fun k => { k with heldRequests := satAdd k.heldRequests 1 }) t z))

/-- R28, R30, R31: a request is examined as it appears: taken into the lowest FREE slot if there is room, else stalled
and counted once, with TABLE_FULL when no slot is FREE; unexamined while RESET_N is asserted. A port that already
offers a request offers no other (log entry 2). R33: REQUEST_TAKE takes a standing offer that has room; with none
takeable nothing happens (log entry 9, the model's choice). -/
def Obligations.OfferedRequestsAreTakenOrStalled : Prop :=
  ∀ (p : Port) (r : Request) (s : State), r.wellFormed = true →
    (∀ o, s.traffic.offers.get p = some o → hasRoom s.ctl s.traffic p o.req →
      ∃ u, taken s.ctl p s.traffic u ∧ exec (.requestTake p) s = .next (s.onPath u)) ∧
    ((∀ o, s.traffic.offers.get p = some o → ¬ hasRoom s.ctl s.traffic p o.req) →
      exec (.requestTake p) s = .next s) ∧
    (s.traffic.offers.get p ≠ none → exec (.requestOffer p r) s = .next s) ∧
    (s.traffic.offers.get p = none → hasRoom s.ctl s.traffic p r →
      ∃ i, lowestFree s.traffic i ∧
        exec (.requestOffer p r) s = .next (s.onPath (s.traffic.create s.ctl p r i))) ∧
    (s.traffic.offers.get p = none → s.ctl.resetAsserted = true → settled s →
      exec (.requestOffer p r) s = .next { s with
        traffic := { s.traffic with offers := s.traffic.offers.set p (some { req := r, counted := false }) } }) ∧
    (s.traffic.offers.get p = none → s.ctl.resetAsserted = false → ¬ hasRoom s.ctl s.traffic p r → settled s →
      ∃ u, exec (.requestOffer p r) s = .next { s with traffic := u } ∧
        stalled p { req := r, counted := false } s.traffic u)

/-- R31, R32: the examination of both ports' offers, and the contest for the last room (log entry 24 on which state a
failing offer is judged outside a contest). -/
def Obligations.ContestAlternatesTheWinner : Prop :=
  ∀ (c : Ctl) (t : Traffic), c.resetAsserted = false →
    (∀ x y, t.offers = { a := some x, b := some y } → hasRoom c t .a x.req → hasRoom c t .b y.req →
      (t.occupancy + 2 ≤ 64 ∧ t.poolInUse + (if x.req.dir = .write then x.req.length else 0) +
          (if y.req.dir = .write then y.req.length else 0) ≤ 256 →
        ∃ v, taken c t.nextWinner t v ∧ taken c (otherPort t.nextWinner) v (t.examineBoth c) ∧
          (t.examineBoth c).nextWinner = t.nextWinner) ∧
      (¬ (t.occupancy + 2 ≤ 64 ∧ t.poolInUse + (if x.req.dir = .write then x.req.length else 0) +
          (if y.req.dir = .write then y.req.length else 0) ≤ 256) →
        ∃ v, taken c t.nextWinner t v ∧
          examined c (otherPort t.nextWinner) { v with nextWinner := otherPort t.nextWinner } (t.examineBoth c) ∧
          (t.examineBoth c).nextWinner = otherPort t.nextWinner)) ∧
    (∀ p x, t.offers.get p = some x → hasRoom c t p x.req →
      (∀ y, t.offers.get (otherPort p) = some y → ¬ hasRoom c t (otherPort p) y.req) →
      ∃ v, examined c (otherPort p) t v ∧ taken c p v (t.examineBoth c) ∧
        (t.examineBoth c).nextWinner = t.nextWinner) ∧
    ((∀ p x, t.offers.get p = some x → ¬ hasRoom c t p x.req) →
      ∃ v, examined c .a t v ∧ examined c .b v (t.examineBoth c))

/-! ### The end of an event -/

/-- R7, R12, R31, R37, R92, R93: what the end of an event settles: released slots join the ready queue in acceptance
order, stalled offers are examined again if pool beats came free (log entry 23), the memory port offers the head of the
queue, and each arbiter with a free channel chooses (log entry 9); nothing else changes and no standing offer is
withdrawn. -/
def Obligations.EventEndSettlesThePath : Prop :=
  ∀ (s : State) (t : Traffic),
    let q : Traffic := { t with ready := joined t }
    let w := if t.poolInUse < s.traffic.poolInUse then q.examineBoth s.ctl else q
    s.onPath t = { s with
      traffic := { w with
        memOffer := offeredToMemory s.ctl w
        resps := { a := offeredTo s.ctl w .a, b := offeredTo s.ctl w .b } } }

/-! ### The memory port (Chapter 2) -/

/-- R29, R37, R38: the memory port offers the head of the ready queue, under the downstream ID of its key, with its
stored beats; none under the rail hold or while RESET_N is asserted, and a standing offer stays. R14, R35: memory takes
the offered head, and without an offer there is nothing to take (log entry 2, the model's choice). MEMORY_OFFER acts only
where the offer is still due (log entry 9). -/
def Obligations.MemoryIsOfferedAndTakesTheHead : Prop :=
  ∀ s : State,
    exec .memoryOffer s = .next { s with traffic := { s.traffic with memOffer := offeredToMemory s.ctl s.traffic } } ∧
    (∀ i, s.traffic.memOffer = some i → ∃ d, s.traffic.offeredRequest = some d ∧
      d.did.val = (match (s.traffic.slot i).port with
        | .a => (s.traffic.slot i).id.val
        | .b => 16 + (s.traffic.slot i).id.val) ∧
      d.dir = (s.traffic.slot i).dir ∧ d.beatAddr = (s.traffic.slot i).beatAddr ∧
      d.length = (s.traffic.slot i).length ∧ d.data = s.traffic.pool[i]) ∧
    (∀ i rest, s.traffic.memOffer = some i → s.traffic.ready = i :: rest →
      ∃ u, exec .memoryTake s = .next (s.onPath u) ∧
        u = { s.traffic with
          slots := u.slots, accounts := u.accounts, pool := u.pool, ready := rest, memOffer := none } ∧
        (∀ j, u.slot j =
          if j = i then { s.traffic.slot i with state := .forwarded false } else s.traffic.slot j) ∧
        (∀ j : SlotIx, u.pool[j] = if j = i then [] else s.traffic.pool[j]) ∧
        ∀ z, u.account z = { s.traffic.account z with
          counters := counted (s.traffic.slot i).zone (fun k =>
            { k with
              admittedRequests := satAdd k.admittedRequests 1
              admittedBeats := satAdd k.admittedBeats (s.traffic.slot i).length }) s.traffic z }) ∧
    (s.traffic.memOffer = none → exec .memoryTake s = .next s)

/-- R29, R39, R41, R95: on a free channel a memory response is matched to the oldest FORWARDED slot of its key and stays
on the channel, or is taken as an orphan; behind an occupied channel it waits in memory, in the order of arrival (log
entry 10). On a backlog of any length the port takes orphans one by one until a response stays on the channel or none is
left. -/
def Obligations.MemoryResponseFindsItsSlot : Prop :=
  ∀ (m : MemResponse) (s : State),
    (s.traffic.memChannel.isSome = true → settled s → exec (.memoryResponse m) s =
      .next { s with traffic := { s.traffic with memBacklog := s.traffic.memBacklog ++ [m] } }) ∧
    (s.traffic.memChannel = none → s.traffic.memBacklog = [] →
    let k : Key := if h : m.did.val < 16 then { port := .a, id := ⟨m.did.val, h⟩ }
      else { port := .b, id := ⟨m.did.val - 16, by omega⟩ }
    (∀ i b before after, s.traffic.order = before ++ i :: after → (s.traffic.slot i).key = k →
      (s.traffic.slot i).state = .forwarded b →
      (∀ j ∈ before, (s.traffic.slot j).key = k → (s.traffic.slot j).state.isForwarded = false) →
      exec (.memoryResponse m) s = .next (s.onPath
        { s.traffic.setSlot i { s.traffic.slot i with state := .forwarded true } with
          memChannel := some { resp := m, slot := i } })) ∧
    ((∀ j ∈ s.traffic.order, (s.traffic.slot j).key = k → (s.traffic.slot j).state.isForwarded = false) →
      settled s →
      exec (.memoryResponse m) s = .next { s with
        traffic := { s.traffic with
          orphans := satAdd s.traffic.orphans 1
          flags := s.traffic.flags ||| Event.orphanResponse.mask } })) ∧
    (Traffic.pump [] s.traffic = { s.traffic with memBacklog := [] }) ∧
    ∀ ms : List MemResponse,
      let k : Key := if h : m.did.val < 16 then { port := .a, id := ⟨m.did.val, h⟩ }
        else { port := .b, id := ⟨m.did.val - 16, by omega⟩ }
      (∀ i b before after, s.traffic.order = before ++ i :: after → (s.traffic.slot i).key = k →
        (s.traffic.slot i).state = .forwarded b →
        (∀ j ∈ before, (s.traffic.slot j).key = k → (s.traffic.slot j).state.isForwarded = false) →
        Traffic.pump (m :: ms) s.traffic =
          { s.traffic.setSlot i { s.traffic.slot i with state := .forwarded true } with
            memChannel := some { resp := m, slot := i }
            memBacklog := ms }) ∧
      ((∀ j ∈ s.traffic.order, (s.traffic.slot j).key = k → (s.traffic.slot j).state.isForwarded = false) →
        Traffic.pump (m :: ms) s.traffic = Traffic.pump ms { s.traffic with
          orphans := satAdd s.traffic.orphans 1
          flags := s.traffic.flags ||| Event.orphanResponse.mask })

/-! ### Answers (Chapter 6) -/

/-- R8, R92: an arbiter with a free channel offers the memory response matched to a chain head of its port, else its oldest
ANSWERING chain head; with neither, or while RESET_N is asserted, or behind a standing offer, nothing (log entry 9). -/
def Obligations.ArbiterPrefersTheMemoryResponse : Prop :=
  ∀ (p : Port) (s : State),
    (∀ i, s.traffic.isHead i = true ↔ ∃ before after, s.traffic.order = before ++ i :: after ∧
      ∀ j ∈ before, ¬ ((s.traffic.slot j).port = (s.traffic.slot i).port ∧
        (s.traffic.slot j).id = (s.traffic.slot i).id)) ∧
    (∀ o, s.traffic.resps.get p = some o → exec (.responseOffer p) s = .next s) ∧
    (s.ctl.resetAsserted = true → exec (.responseOffer p) s = .next s) ∧
    (s.traffic.resps.get p = none → s.ctl.resetAsserted = false →
      (∀ m, s.traffic.memChannel = some m → (s.traffic.slot m.slot).port = p → s.traffic.isHead m.slot = true →
        exec (.responseOffer p) s = .next { s with
          traffic := { s.traffic with
            resps := s.traffic.resps.set p (some
              { slot := m.slot, kind := .memory, resp := (s.traffic.slot m.slot).memoryAnswer m.resp }) } }) ∧
      ((∀ m, s.traffic.memChannel = some m →
          ¬ ((s.traffic.slot m.slot).port = p ∧ s.traffic.isHead m.slot = true)) →
        (∀ i a before after, s.traffic.order = before ++ i :: after → (s.traffic.slot i).port = p →
          (s.traffic.slot i).state = .answering a → s.traffic.isHead i = true →
          (∀ j ∈ before, ¬ ((s.traffic.slot j).port = p ∧ (s.traffic.slot j).state.isAnswering = true ∧
            s.traffic.isHead j = true)) →
          exec (.responseOffer p) s = .next { s with
            traffic := { s.traffic with
              resps := s.traffic.resps.set p (some
                { slot := i, kind := .synthetic, resp := (s.traffic.slot i).syntheticAnswer a }) } }) ∧
        ((∀ j ∈ s.traffic.order, ¬ ((s.traffic.slot j).port = p ∧ (s.traffic.slot j).state.isAnswering = true ∧
            s.traffic.isHead j = true)) →
          exec (.responseOffer p) s = .next s)))

/-- R27, R40, R98, R99: the records delivered: a synthetic answer carries the slot's id, the answer status and zero
beats; a memory response carries OKAY only where memory gave OKAY and enough beats, exactly the slot's length in beats
for a READ with missing ones zero, and none for a WRITE. -/
def Obligations.DeliveredRecordsAreShaped : Prop :=
  ∀ (s : Slot) (m : MemResponse) (a : AnswerStatus),
    (s.dir = .read →
      s.syntheticAnswer a = { id := s.id, status := a.toStatus, data := (List.range s.length).map fun _ => 0 } ∧
      s.memoryAnswer m =
        { id := s.id
          status := if m.status = .okay ∧ s.length ≤ m.data.length then .okay else .memError
          data := beatsOf s.length m.data }) ∧
    (s.dir = .write →
      s.syntheticAnswer a = { id := s.id, status := a.toStatus, data := [] } ∧
      s.memoryAnswer m = { id := s.id, status := if m.status = .okay then .okay else .memError, data := [] }) ∧
    AnswerStatus.toStatus .refused = .refused ∧ AnswerStatus.toStatus .fenced = .fenced ∧
    AnswerStatus.toStatus .expired = .expired

/-- R15, R94: the requester takes the offer: the slot becomes FREE and leaves the acceptance order, the memory port
takes a delivered memory response and examines the next, a delivered MEM_ERROR is counted, a drain may end (R150), and
the stalled offers are examined before the event settles (log entry 9). Without a current offer there is nothing to take
(log entry 2, the model's choice). -/
def Obligations.DeliveryFreesTheSlot : Prop :=
  ∀ (p : Port) (s : State),
    (s.traffic.resps.get p = none → exec (.delivery p) s = .next s) ∧
    ∀ o, s.traffic.resps.get p = some o → ∃ u,
      u = { s.traffic with
        slots := u.slots, accounts := u.accounts, order := s.traffic.order.erase o.slot
        resps := s.traffic.resps.set p none } ∧
      (∀ j, u.slot j = if j = o.slot then { s.traffic.slot j with state := .free } else s.traffic.slot j) ∧
      (∀ z, u.account z = { s.traffic.account z with
        counters := if o.resp.status = .memError then
            counted (s.traffic.slot o.slot).zone (fun k => { k with memoryErrors := satAdd k.memoryErrors 1 })
              s.traffic z
          else (s.traffic.account z).counters }) ∧
      let v := if o.kind = .memory then Traffic.pump u.memBacklog { u with memChannel := none } else u
      let s1 : State := if s.ctl.governor = .draining ∧ v.inFlight = 0 then
          { s with ctl := { s.ctl with governor := .frozen }, traffic := v.raise .frozen }
        else { s with traffic := v }
      exec (.delivery p) s = .next (s1.onPath (s1.traffic.examineBoth s1.ctl))

/-! ### Releases, payments, answers (Chapters 1 and 4) -/

/-- R12, R17, R88: the re-evaluation of ORDER over the table and the releases it makes. A HELD slot keeps ORDER exactly
where it had it and an older slot of its key stays HELD, and is released exactly when no reason is left (log entry 14:
one pass, oldest first). -/
def Obligations.SweepReleasesEmptySets : Prop :=
  ∀ t : Traffic, t.order.Nodup →
    let u := t.sweep
    u = { t with slots := u.slots, accounts := u.accounts } ∧
    (∀ i r age, i ∈ t.order → (t.slot i).state = .held r age →
      u.slot i = { t.slot i with
        state := if ({ r with order := r.order && heldBefore u i } : Reasons) =
            { budget := false, order := false, freeze := false, rail := false, surge := false } then .ready
          else .held { r with order := r.order && heldBefore u i } age }) ∧
    (∀ i, i ∉ t.order ∨ (t.slot i).state.isHeld = false → u.slot i = t.slot i) ∧
    ∀ z, (u.account z).credit = t.credit z ∧ (u.account z).counters = (t.account z).counters ∧
      (t.account z).longestHold ≤ (u.account z).longestHold ∧
      (∀ i r age, (t.slot i).state = .held r age → (u.slot i).state = .ready → (t.slot i).zone = some z →
        age ≤ (u.account z).longestHold) ∧
      ((u.account z).longestHold = (t.account z).longestHold ∨
        ∃ i r, (t.slot i).state = .held r (u.account z).longestHold ∧ (u.slot i).state = .ready ∧
          (t.slot i).zone = some z)

/-- R64, R65: an attempt in a zone pays its oldest unpaid HELD slots one after the other while the credit covers the cost.
The attempts of an event are one in each listed zone in turn, and then the re-evaluation of ORDER with its releases (log
entries 14 and 15). -/
def Obligations.PaymentAttemptPaysOldestFirst : Prop :=
  ∀ (z : ZoneIx) (t : Traffic),
    ((∀ j ∈ t.order, (t.slot j).state.isHeld = true → (t.slot j).zone = some z → (t.slot j).paid = true) →
      t.payAttempt z = t) ∧
    (∀ i before after, t.order = before ++ i :: after → (t.slot i).state.isHeld = true → (t.slot i).zone = some z →
      (t.slot i).paid = false →
      (∀ j ∈ before, (t.slot j).state.isHeld = true → (t.slot j).zone = some z → (t.slot j).paid = true) →
      (t.credit z < (t.slot i).cost → t.payAttempt z = t) ∧
      ((t.slot i).cost ≤ t.credit z →
        t.payAttempt z =
          ((t.setCredit z (t.credit z - (t.slot i).cost)).setSlot i (paidSlot (t.slot i))).payAttempt z)) ∧
    t.payAttempts [] = t.sweep ∧ ∀ zs, t.payAttempts (z :: zs) = (t.payAttempt z).payAttempts zs

/-- R61, R65: every zone's credit rises by its effective rate up to its ceiling, and then every zone makes a payment
attempt; where no candidate can be paid, the credits are all that changes. -/
def Obligations.RefillTickRaisesEveryCredit : Prop :=
  ∀ s : State, ∃ u,
    u = { s.traffic with accounts := u.accounts } ∧
    (∀ z, u.account z = { s.traffic.account z with
      credit := min (s.traffic.credit z + s.ctl.zones[z].control.rate) s.ctl.zones[z].ceiling }) ∧
    exec .refillTick s = .next (s.onPath (u.payAttempts (List.finRange 8))) ∧
    (pathOk s.ctl s.traffic → settled s → paidUp u → exec .refillTick s = .next { s with traffic := u })

/-- R13, R35, R68, R82, R88, R171: answering a HELD slot, and nothing where the slot is no longer HELD (R16). -/
def Obligations.AnsweringRefundsAndFrees : Prop :=
  ∀ (c : Ctl) (a : AnswerStatus) (t : Traffic) (i : SlotIx),
    ((t.slot i).state.isHeld = false → t.answer c a i = t) ∧
    ∀ r age, (t.slot i).state = .held r age →
      let u := t.answer c a i
      u = { t with slots := u.slots, accounts := u.accounts, pool := u.pool, flags := u.flags } ∧
      (∀ j, u.slot j = if j = i then { t.slot i with state := .answering a, paid := false } else t.slot j) ∧
      (∀ j : SlotIx, u.pool[j] = if j = i then [] else t.pool[j]) ∧
      (∀ z, u.account z =
        { credit := refunded c (t.slot i) t z
          longestHold := longestAfter (t.slot i) age t z
          counters := counted (t.slot i).zone (fun k =>
            match a with
            | .fenced => { k with fencedAnswers := satAdd k.fencedAnswers 1 }
            | .expired => { k with expired := satAdd k.expired 1 }
            | .refused => { k with refusedAnswers := satAdd k.refusedAnswers 1 }) t z }) ∧
      u.flags = match a with
        | .fenced => t.flags
        | .expired => t.flags ||| Event.holdExpired.mask
        | .refused => t.flags ||| Event.refusedAccess.mask

/-! ### Ageing and expiry (Chapter 5) -/

/-- R76, R79, R83: an age tick ages every HELD slot without FREEZE, takes the slots at or above their limits one at a
time in held-list order, and then makes one payment attempt in each zone that a forced or answered one belongs to (log
entry 15); where none is due, the ages are all that changes. -/
def Obligations.AgeTickTakesTheExpiries : Prop :=
  ∀ s : State, ∃ g w,
    g = { s.traffic with slots := g.slots } ∧ (∀ i, g.slot i = agedSlot (s.traffic.slot i)) ∧
    w = (g.order.filter fun i => dueToExpire s.ctl (g.slot i)).foldl (Traffic.turn s.ctl) g ∧
    exec .ageTick s = .next (s.onPath (w.payAttempts ((List.finRange 8).filter fun z =>
      (g.order.filter fun i => dueToExpire s.ctl (g.slot i)).any fun i =>
        decide ((w.slot i).zone = some z) && ((w.slot i).forced || (w.slot i).state.isAnswering)))) ∧
    (pathOk s.ctl s.traffic → settled s → (∀ i, dueToExpire s.ctl (g.slot i) = false) →
      exec .ageTick s = .next { s with traffic := g })

/-- R16, R70, R80, R81, R82: the turn of an expiring slot: forced on debt where its reasons are exactly BUDGET under
FORCE, answered EXPIRED otherwise, left alone where it is no longer HELD; then ORDER is re-evaluated. -/
def Obligations.ExpiringSlotIsForcedOrAnswered : Prop :=
  ∀ (c : Ctl) (t : Traffic) (i : SlotIx),
    ((t.slot i).state.isHeld = false → t.turn c i = t) ∧
    ∀ r age, (t.slot i).state = .held r age →
      (¬ isForced c (t.slot i) r → t.turn c i = (t.answer c .expired i).sweep) ∧
      (isForced c (t.slot i) r → ∃ u : Traffic, t.turn c i = u.sweep ∧
        u = { t with slots := u.slots, accounts := u.accounts, flags := t.flags ||| Event.holdForced.mask } ∧
        (∀ j, u.slot j = if j = i then
            { t.slot i with
              state := .held { budget := false, order := false, freeze := false, rail := false, surge := false } age
              paid := true
              forced := true }
          else t.slot j) ∧
        ∀ z, u.account z = { t.account z with
          credit := if (t.slot i).zone = some z then
              max (t.credit z - (t.slot i).cost) (-(c.zones[z].ceiling : Int))
            else t.credit z
          counters := counted (t.slot i).zone (fun k => { k with forced := satAdd k.forced 1 }) t z })

/-! ### The table's answer to holds and fences (Chapters 1 and 8) -/

/-- R19, R20, R21, R38, R129, R130, R134, R138: when a zone is fenced and a hold active, and how the table follows a change
of the control side: a hold that begins puts its reason on every HELD slot (and the rail hold withdraws the offer to
memory), a hold that ends takes it off and releases, a fence onset answers, a lift raises FENCE_LIFTED, and no change
does nothing (log entry 27: one reaction to one event). -/
def Obligations.TableFollowsHoldsAndFences : Prop :=
  ∀ (c0 c1 : Ctl) (t : Traffic),
    let onset := fun z : ZoneIx => !c0.fenced z && c1.fenced z
    let lifts := ∃ z, c0.fenced z = true ∧ c1.fenced z = false
    (∀ z, c0.fenced z = true ↔ fencingTrip c0 z ∨ (c0.scopeAll = true ∧ ∃ y, fencingTrip c0 y)) ∧
    (c0.holdActive .freeze = true ↔ c0.governor ≠ .run) ∧
    (c0.holdActive .rail = true ↔ c0.railState = .lost ∨ c0.railState = .recoveredLatched) ∧
    (c0.holdActive .surge = true ↔ c0.surgeState = .tripped) ∧
    ((∀ h, c1.holdActive h = c0.holdActive h) → (∀ z, onset z = false) → ¬ lifts → t.react c0 c1 = t) ∧
    ((∀ h, c1.holdActive h = c0.holdActive h) → (∀ z, onset z = false) → lifts →
      t.react c0 c1 = { t with flags := t.flags ||| Event.fenceLifted.mask }) ∧
    ((∀ h, c1.holdActive h = c0.holdActive h) → (∃ z, onset z = true) → ¬ lifts →
      t.react c0 c1 = t.fenceOnset c1 onset) ∧
    ((∀ z, onset z = false) → ¬ lifts →
      ∀ h, (∀ k, k ≠ h → c1.holdActive k = c0.holdActive k) →
        (c0.holdActive h = false → c1.holdActive h = true →
          t.react c0 c1 = { t with
            slots := t.slots.map (withHold h true)
            memOffer := if h = .rail then none else t.memOffer }) ∧
        (c0.holdActive h = true → c1.holdActive h = false →
          t.react c0 c1 = Traffic.sweep { t with slots := t.slots.map (withHold h false) }))

/-- R68, R88, R130: at a fence onset every HELD slot of the zones is answered FENCED and counted, its cost refunded if it
was paid, up to the ceiling, and its age kept in the longest-hold record; READY, FORWARDED and ANSWERING slots are not
touched, and a HELD slot of another zone stays HELD or is released, with its beats, unpaid or paid as it was. The answers
are made in held-list order, ORDER is re-evaluated, and the zones' payment attempts follow (log entries 13 and 15). -/
def Obligations.FenceOnsetAnswersHeldSlots : Prop :=
  ∀ (c : Ctl) (onset : ZoneIx → Bool) (t : Traffic), orderOk t →
    let u := t.fenceOnset c onset
    let hit := t.order.filter fun i => (t.slot i).state.isHeld && (t.slot i).zone.any onset
    u = (hit.foldl (Traffic.answer c .fenced) t).sweep.payAttempts ((List.finRange 8).filter fun z =>
      hit.any fun i => decide ((t.slot i).zone = some z)) ∧
    (∀ i z, (t.slot i).state.isHeld = true → (t.slot i).zone = some z → onset z = true →
      u.slot i = { t.slot i with state := .answering .fenced, paid := false } ∧ u.pool[i] = []) ∧
    (∀ i, (t.slot i).state.isHeld = false → u.slot i = t.slot i ∧ u.pool[i] = t.pool[i]) ∧
    (∀ i, (t.slot i).state.isHeld = true → (∀ z, (t.slot i).zone = some z → onset z = false) →
      u.pool[i] = t.pool[i] ∧ ((u.slot i).state.isHeld = true ∨ (u.slot i).state = .ready) ∧
        u.slot i = { t.slot i with state := (u.slot i).state }) ∧
    u.order = t.order ∧ u.flags = t.flags ∧
    (∀ z, onset z = false → u.credit z = t.credit z) ∧
    (creditOk c t → ∀ z, onset z = true → u.credit z = min (c.zones[z].ceiling : Int) (t.credit z +
      ((hit.filter fun i => decide ((t.slot i).zone = some z) && (t.slot i).paid).map fun i => (t.slot i).cost).sum)) ∧
    (∀ z, (u.account z).longestHold =
      (t.order.filterMap (ageLeaving t u z)).foldl max (t.account z).longestHold) ∧
    ∀ z, (u.account z).counters = { (t.account z).counters with
      fencedAnswers := satAdd (t.account z).counters.fencedAnswers (if onset z = true then
        t.order.countP fun i => (t.slot i).state.isHeld && decide ((t.slot i).zone = some z) else 0) }

/-! ### Sampling and the rate controller (Chapter 7) -/

/-- R106, R107, R108, R112, R127, R128: a conversion that gives a temperature: the sample, its channel, every zone that
names the channel, the warn and trip flags, and the next conversion; a discarded result changes no more than the
conversion. Without a conversion in progress there is nothing to complete (log entry 2, the model's choice). -/
def Obligations.ConversionDeliversItsSample : Prop :=
  ∀ (raw : Int) (s : State),
    (s.ctl.conversion = none → exec (.conversionCompletion raw) s = .next s) ∧
    (∀ v, s.ctl.conversion = some v → v.discard = true → ∃ r n, scansOn s.ctl v.channel r n ∧
      exec (.conversionCompletion raw) s = .next { s with
        ctl := { s.ctl with scanRound := r, conversion := n } }) ∧
    ∀ v, s.ctl.conversion = some v → v.discard = false →
      let x := halfDegrees (halfDegrees raw + v.offset)
      ∃ r n c f1 f2, scansOn s.ctl v.channel r n ∧
        c = { s.ctl with channels := c.channels, zones := c.zones, scanRound := r, conversion := n } ∧
        (∀ k : ChanIx, c.channels[k] = if k = v.channel then
            { s.ctl.channels[k] with lastSample := x, lastValid := true, fault := false }
          else s.ctl.channels[k]) ∧
        (∀ z : ZoneIx, c.zones[z] = sampledZone v.channel x s.ctl.zones[z]) ∧
        (f1 = true ↔ ∃ z : ZoneIx, warnRises s.ctl.zones[z].monitor.warnLevel c.zones[z].monitor.warnLevel) ∧
        (f2 = true ↔ ∃ z : ZoneIx,
          s.ctl.zones[z].monitor.tripped = false ∧ c.zones[z].monitor.tripped = true) ∧
        exec (.conversionCompletion raw) s = .next (({ s with
          traffic := { s.traffic with
            flags := flagsWith f2 .zoneShutdown (flagsWith f1 .zoneWarn s.traffic.flags) } } : State).control c)

/-- R106, R107, R109: a conversion that finds a fault, and the end of an empty round. A CONVERSION_FAULT without a
conversion and an EMPTY_ROUND_END during one are no events (log entry 2, the model's choice). -/
def Obligations.FaultsAndEmptyRoundsScanOn : Prop :=
  ∀ s : State,
    (s.ctl.conversion = none →
      exec .conversionFault s = .next s ∧
      ∃ n, picks s.ctl (s.ctl.scanRound + 1) 0 n ∧
        exec .emptyRoundEnd s = .next { s with
          ctl := { s.ctl with scanRound := s.ctl.scanRound + 1, conversion := n } }) ∧
    ∀ v, s.ctl.conversion = some v →
      exec .emptyRoundEnd s = .next s ∧
      ∃ r n, scansOn s.ctl v.channel r n ∧
        (v.discard = true → exec .conversionFault s = .next { s with
          ctl := { s.ctl with scanRound := r, conversion := n } }) ∧
        (v.discard = false → ∃ chs : Vector Channel 8,
          (∀ k : ChanIx, chs[k] = if k = v.channel then { s.ctl.channels[k] with lastValid := false, fault := true }
            else s.ctl.channels[k]) ∧
          exec .conversionFault s = .next { s with
            ctl := { s.ctl with channels := chs, scanRound := r, conversion := n }
            traffic := { s.traffic with
              flags := flagsWith (!s.ctl.channels[v.channel].fault) .sensorFault s.traffic.flags } })

/-- R113, R116, R131, R175: a control tick closes every zone's period: a valid average goes to the monitor, which may
release a WARN or CYCLE trip, and to the indicator; the accumulators clear; a zone without a sensor does nothing; a
zone that gains STALE raises ZONE_STALE; blanking falls by one (log entries 16 and 17). -/
def Obligations.ControlTickClosesEveryPeriod : Prop :=
  ∀ s : State, ∃ c f,
    exec .controlTick s = .next (({ s with
      traffic := { s.traffic with flags := flagsWith f .zoneStale s.traffic.flags } } : State).control c) ∧
    c = { s.ctl with zones := c.zones, indicator := c.indicator } ∧
    (f = true ↔ ∃ z : ZoneIx,
      s.ctl.zones[z].control.causeStale = false ∧ c.zones[z].control.causeStale = true) ∧
    (∀ z : ZoneIx, s.ctl.zones[z].control.sensor = none → c.zones[z] = s.ctl.zones[z]) ∧
    (∀ z : ZoneIx, s.ctl.zones[z].control.sensor ≠ none →
      let k := s.ctl.zones[z].control
      let m := s.ctl.zones[z].monitor
      let avg := k.sampleSum.tdiv k.sampleCount
      c.zones[z] = { s.ctl.zones[z] with
        control := c.zones[z].control, monitor := c.zones[z].monitor, lastAverage := c.zones[z].lastAverage } ∧
      c.zones[z].control.sampleSum = 0 ∧ c.zones[z].control.sampleCount = 0 ∧
      (k.sampleCount < k.minSamples →
        c.zones[z].monitor = m ∧ c.zones[z].lastAverage = s.ctl.zones[z].lastAverage) ∧
      (k.minSamples ≤ k.sampleCount →
        c.zones[z].lastAverage = some avg ∧
        c.zones[z].monitor =
          if m.tripped = true ∧ (m.mode = .warn ∨ m.mode = .cycle) ∧ avg < m.shutdown - m.hysteresis then
            { m with tripped := false, overRun := 0 }
          else m)) ∧
    (s.ctl.indicator.blanking = 0 → c.indicator = s.ctl.indicator) ∧
    (s.ctl.indicator.blanking = 1 →
      c.indicator = { s.ctl.indicator with blanking := 0, duty := dutyOf c s.traffic }) ∧
    (2 ≤ s.ctl.indicator.blanking →
      c.indicator = { s.ctl.indicator with blanking := s.ctl.indicator.blanking - 1 })

/-- R114: a PI update, made at a control tick in a primed zone whose effective source is PI and whose period is
valid. -/
def Obligations.PiUpdateFollowsTheFormula : Prop :=
  ∀ (s : State) (z : ZoneIx) (ch : ChanIx), s.ctl.zones[z].control.sensor = some ch →
    s.ctl.zones[z].control.source = .pi → s.ctl.zones[z].control.primed = true →
    controlOk s.ctl.zones[z].control → s.ctl.zones[z].control.minSamples ≤ s.ctl.zones[z].control.sampleCount →
    let k := s.ctl.zones[z].control
    let e := k.setpoint - k.sampleSum.tdiv k.sampleCount
    let u := max (k.rateMin * 256 : Int)
      (min (k.rateMax * 256) (k.u + (k.kp * (e - k.e1) + k.ki * e + k.kd * (e - 2 * k.e1 + k.e2))))
    ∃ t, exec .controlTick s = .next t ∧ t.ctl.zones[z].control =
      { k with u := u, rate := (u.fdiv 256).toNat, e2 := k.e1, e1 := e, staleRun := 0, sampleSum := 0, sampleCount := 0 }

/-- R115: priming, made at a control tick in an unprimed zone whose effective source is PI: the first valid average sets
both errors and nothing of U or the rate; a short period leaves the zone unprimed. -/
def Obligations.PrimingTakesTheFirstError : Prop :=
  ∀ (s : State) (z : ZoneIx) (ch : ChanIx), s.ctl.zones[z].control.sensor = some ch →
    s.ctl.zones[z].control.source = .pi → s.ctl.zones[z].control.primed = false →
    controlOk s.ctl.zones[z].control →
    let k := s.ctl.zones[z].control
    let e := k.setpoint - k.sampleSum.tdiv k.sampleCount
    ∃ t, exec .controlTick s = .next t ∧
      (k.minSamples ≤ k.sampleCount → t.ctl.zones[z].control =
        { k with e1 := e, e2 := e, primed := true, staleRun := 0, sampleSum := 0, sampleCount := 0 }) ∧
      (k.sampleCount < k.minSamples → t.ctl.zones[z].control.primed = false ∧
        t.ctl.zones[z].control.e1 = k.e1 ∧ t.ctl.zones[z].control.e2 = k.e2 ∧ t.ctl.zones[z].control.u = k.u)

/-- R116, R117: the stale bookkeeping of a control tick, with the entry into FALLBACK or back into PI; an OPEN zone
does none. -/
def Obligations.ShortPeriodsAddStale : Prop :=
  ∀ (s : State) (z : ZoneIx) (ch : ChanIx), s.ctl.zones[z].control.sensor = some ch →
    let k := s.ctl.zones[z].control
    ∃ t, exec .controlTick s = .next t ∧
      (k.mode = .pi → k.sampleCount < k.minSamples →
        t.ctl.zones[z].control = entered { k with
          sampleSum := 0
          sampleCount := 0
          staleRun := min 15 (k.staleRun + 1)
          causeStale := if k.staleLimit ≠ 0 ∧ k.staleLimit ≤ min 15 (k.staleRun + 1) then true else k.causeStale }) ∧
      (k.mode = .pi → k.minSamples ≤ k.sampleCount → k.source ≠ .pi →
        t.ctl.zones[z].control = entered { k with
          sampleSum := 0, sampleCount := 0, staleRun := 0, causeStale := false }) ∧
      (k.mode = .openLoop → k.source ≠ .pi →
        t.ctl.zones[z].control = { k with sampleSum := 0, sampleCount := 0 })

/-! ### Rail and surge (Chapter 8) -/

/-- R134, R135: the rail monitor's table; a RAILGOOD already low cannot fall and one already high cannot rise, and only
a running filter expires (log entry 2), whatever time it has left (log entry 30, the model's choice). -/
def Obligations.RailTable : Prop :=
  ∀ s : State,
    (s.ctl.railGood = false → exec .railgoodFall s = .next s) ∧
    (s.ctl.railGood = true → exec .railgoodFall s = .next (
      match s.ctl.railState with
      | .good => follows s none { s.ctl with railGood := false, railState := .filtering s.ctl.railFilter }
      | .recoveredLatched => follows s (some .railLoss) { s.ctl with railGood := false, railState := .lost }
      | .idle | .filtering _ | .lost => follows s none { s.ctl with railGood := false })) ∧
    (s.ctl.railGood = true → exec .railgoodRise s = .next s) ∧
    (s.ctl.railGood = false → exec .railgoodRise s = .next (
      match s.ctl.railState, s.ctl.railMode with
      | .filtering _, _ => follows s none { s.ctl with railGood := true, railState := .good }
      | .lost, .auto => follows s (some .railReturn) { s.ctl with railGood := true, railState := .good }
      | .lost, .latched => follows s none { s.ctl with railGood := true, railState := .recoveredLatched }
      | .lost, .off | .idle, _ | .good, _ | .recoveredLatched, _ => follows s none { s.ctl with railGood := true })) ∧
    (∀ n, s.ctl.railState = .filtering n →
      exec .railFilterExpiry s = .next (follows s (some .railLoss) { s.ctl with railState := .lost })) ∧
    ((∀ n, s.ctl.railState ≠ .filtering n) → exec .railFilterExpiry s = .next s)

/-- R138, R139, R140: the surge monitor's table and the cycle boundary; a SURGE already asserted cannot be asserted, and
only a running filter expires (log entry 2), whatever time it has left (log entry 30, the model's choice). A boundary in
TRIPPED uses the surge filter as the field then stands (log entry 29, the model's choice). -/
def Obligations.SurgeTable : Prop :=
  ∀ s : State,
    let started : SurgeState := match s.ctl.surgeFilter with
      | .none => .tripped
      | .us1 => .filtering 1
      | .us4 => .filtering 4
      | .us16 => .filtering 16
    (s.ctl.surgeAsserted = true → exec .surgeAssert s = .next s) ∧
    (s.ctl.surgeAsserted = false → exec .surgeAssert s = .next (
      if s.ctl.surgeState = .armed then
        follows s (if s.ctl.surgeFilter = .none then some .surge else none)
          { s.ctl with surgeAsserted := true, surgeState := started }
      else follows s none { s.ctl with surgeAsserted := true })) ∧
    (s.ctl.surgeAsserted = false → exec .surgeDeassert s = .next s) ∧
    (s.ctl.surgeAsserted = true → exec .surgeDeassert s = .next (
      match s.ctl.surgeState with
      | .filtering _ => follows s none { s.ctl with surgeAsserted := false, surgeState := .armed }
      | .idle | .armed | .tripped => follows s none { s.ctl with surgeAsserted := false })) ∧
    (∀ n, s.ctl.surgeState = .filtering n →
      exec .surgeFilterExpiry s = .next (follows s (some .surge) { s.ctl with surgeState := .tripped })) ∧
    ((∀ n, s.ctl.surgeState ≠ .filtering n) → exec .surgeFilterExpiry s = .next s) ∧
    exec .cycleBoundary s = .next (
      if s.ctl.surgeMode = .cycle ∧ s.ctl.surgeState = .tripped then
        follows s none { s.ctl with surgeState := if s.ctl.surgeAsserted = true then started else .armed }
      else follows s none s.ctl)

/-! ### The setpoint lease and the governor (Chapter 9) -/

/-- R143, R145 to R148: the lease's table of events, with the reports of its frames; LEASE_OPEN_TIME and LEASE_CLOSE_TIME
set the timer to the time they stand for (log entry 18), and are no events in another lease state or, for the close time,
on a timer that has just restarted (log entry 2). Of a renewal and the close time in OPEN_WINDOW the one taken first
decides: after the renewal the close time violates nothing, and after the close time the renewal finds VIOLATED. -/
def Obligations.LeaseTable : Prop :=
  ∀ s : State,
    let l := s.ctl.lease
    (l.state = .waiting → exec .leaseOpenTime s = .next { s with
      ctl := { s.ctl with lease := { l with state := .openWindow, timer := l.openTime, micros := 0 } } }) ∧
    (l.state ≠ .waiting → exec .leaseOpenTime s = .next s) ∧
    (l.state = .openWindow → ¬ (l.timer = 0 ∧ l.micros = 0) →
      exec .leaseCloseTime s = .next (violated s .late l.closeTime 0)) ∧
    (l.state = .openWindow → l.timer = 0 → l.micros = 0 → exec .leaseCloseTime s = .next s) ∧
    (takesFrames s → l.state = .openWindow →
      (∃ t, exec .leaseRenew s = .next t ∧ exec .leaseCloseTime t = .next t) ∧
      (¬ (l.timer = 0 ∧ l.micros = 0) → ∃ t, exec .leaseCloseTime s = .next t ∧
        exec .leaseRenew t = .next (ends t .conditionPresent 3))) ∧
    (l.state ≠ .openWindow → exec .leaseCloseTime s = .next s) ∧
    (takesFrames s →
      exec .leaseStart s = .next (match l.state with
        | .stopped => ends { s with ctl := { s.ctl with lease := startedLease l } } .done
            (if l.openTime = 0 then 2 else 1)
        | .waiting => ends s .busy 1
        | .openWindow => ends s .busy 2
        | .violated => ends s .busy 3) ∧
      exec .leaseRenew s = .next (match l.state with
        | .stopped => ends s .invalid 0
        | .waiting => ends (violated s .early l.timer l.micros) .conditionPresent 3
        | .openWindow => ends { s with ctl := { s.ctl with lease := startedLease l } } .done
            (if l.openTime = 0 then 2 else 1)
        | .violated => ends s .conditionPresent 3) ∧
      exec .leaseStop s = .next (match l.state with
        | .stopped => ends s .done 0
        | .waiting | .openWindow => ends { s with
            ctl := { s.ctl with lease := { l with state := .stopped, timer := 0, micros := 0 } } } .done 0
        | .violated => ends s .busy 3))

/-- R7, R149, R150, R152: DRAIN puts FREEZE on every HELD slot and reaches FROZEN at once where no slot is READY or
FORWARDED; FROZEN_ENTRY ends a drain whose count is 0 (log entry 9); RESUME in RUN does nothing and in DRAINING takes
FREEZE off. -/
def Obligations.GovernorTable : Prop :=
  ∀ s : State,
    s.traffic.inFlight = ((List.finRange 64).countP fun i =>
      decide ((s.traffic.slot i).state = .ready) || (s.traffic.slot i).state.isForwarded) ∧
    (s.ctl.governor = .draining → s.traffic.inFlight = 0 → exec .frozenEntry s = .next { s with
      ctl := { s.ctl with governor := .frozen }
      traffic := { s.traffic with flags := s.traffic.flags ||| Event.frozen.mask } }) ∧
    (¬ (s.ctl.governor = .draining ∧ s.traffic.inFlight = 0) → exec .frozenEntry s = .next s) ∧
    (takesFrames s →
      (s.ctl.governor = .draining → exec .drain s = .next (ends s .done 1)) ∧
      (s.ctl.governor = .frozen → exec .drain s = .next (ends s .done 2)) ∧
      (s.ctl.governor = .run → settled s →
        (s.traffic.inFlight = 0 → exec .drain s = .next (ends { s with
          ctl := { s.ctl with governor := .frozen }
          traffic := { s.traffic with
            slots := s.traffic.slots.map (withHold .freeze true)
            flags := s.traffic.flags ||| Event.frozen.mask } } .done 2)) ∧
        (s.traffic.inFlight ≠ 0 → exec .drain s = .next (ends { s with
          ctl := { s.ctl with governor := .draining }
          traffic := { s.traffic with slots := s.traffic.slots.map (withHold .freeze true) } } .done 1))) ∧
      (s.ctl.governor = .run → exec .resume s = .next (ends s .done 0)) ∧
      (s.ctl.governor = .draining →
        exec .resume s = .next (ends (follows s none { s.ctl with governor := .run }) .done 0)))

/-- R69, R153: RESUME from FROZEN: each HELD slot in held-list order is refunded, looked up again, and answered where the
map or a fence now asks for it; then reasons are set anew, ORDER is re-evaluated, and every zone makes a payment
attempt. -/
def Obligations.ResumeReResolvesHeldSlots : Prop :=
  ∀ s : State, takesFrames s → s.ctl.governor = .frozen →
    let c : Ctl := { s.ctl with governor := .run }
    ∃ f : Traffic → SlotIx → Traffic,
      (∀ t i, (t.slot i).state.isHeld = false → f t i = t) ∧
      (∀ t i, (t.slot i).state.isHeld = true → ∃ u : Traffic,
        u = { t with slots := u.slots, accounts := u.accounts } ∧
        (∀ j, u.slot j = if j = i then lookedUpAgain c (t.slot i) else t.slot j) ∧
        (∀ z, u.account z = { t.account z with credit := refunded c (t.slot i) t z }) ∧
        let l := c.lookup (pageOf (t.slot i).beatAddr)
        (forbidden l.attr (t.slot i).dir → f t i = u.answer c .refused i) ∧
        (¬ forbidden l.attr (t.slot i).dir → (∃ z, l.zone = some z ∧ c.fenced z = true) →
          f t i = u.answer c .fenced i) ∧
        (¬ forbidden l.attr (t.slot i).dir → (∀ z, l.zone = some z → c.fenced z = false) → f t i = u)) ∧
      let w := (s.traffic.order.filter fun i => (s.traffic.slot i).state.isHeld).foldl f s.traffic
      let x : Traffic := { w with slots := w.slots.map reasonedAgain }
      exec .resume s = .next (ends
        { s with ctl := c, traffic := (x.sweep.payAttempts (List.finRange 8)).settle c s.traffic } .done 0)

/-- R74, R111, R155: RESET_CONFIG is accepted in FROZEN with every slot FREE, and refused BUSY in any other case. That
INDICATE's duty is 0 at once is the model's choice (log entry 16). Both timers restart as at a write of the refill period,
which leaves the rest of a refill expiry that has been taken in part (log entry 31, the model's reading). -/
def Obligations.ResetConfigRestoresPowerOnSettings : Prop :=
  ∀ s : State, takesFrames s →
    (s.ctl.governor = .frozen → (∀ i, (s.traffic.slot i).state = .free) → pathOk s.ctl s.traffic → settled s →
      exec .resetConfig s = .next (ends { s with
        due := noTimerExpiry s.due
        ctl := { State.reset.ctl with
          eventMask := s.ctl.eventMask
          scanRound := s.ctl.scanRound
          conversion := s.ctl.conversion.map fun v => { v with discard := true }
          snapshot := s.ctl.snapshot
          resetAsserted := s.ctl.resetAsserted
          railGood := s.ctl.railGood
          surgeAsserted := s.ctl.surgeAsserted }
        traffic := { s.traffic with
          accounts := s.traffic.accounts.map fun a => { a with credit := 65535 }
          flags := flagsWith ((List.finRange 8).any fun z => s.ctl.fenced z) .fenceLifted s.traffic.flags } }
        .done 0)) ∧
    (s.ctl.governor = .frozen → ¬ (∀ i, (s.traffic.slot i).state = .free) →
      exec .resetConfig s = .next (ends s .busy 2)) ∧
    (s.ctl.governor = .draining → exec .resetConfig s = .next (ends s .busy 1)) ∧
    (s.ctl.governor = .run → exec .resetConfig s = .next (ends s .busy 0))

/-! ### The management link (Chapter 10) -/

/-- R156, R158, R159, R176: the status codes are those of section 10.1; the assertion of CS_N fixes the outbound bits, the
wait after power-on ends at the release, and a frame of other than 32 edges is a frame error. The bits of SDI, most
significant first, are the inbound word of a frame of 32 edges, and a frame put before the machine is its CS_N_ASSERT and
then the command of its bits (log entry 6). SDO is driven only while CS_N is asserted in a frame (log entry 32). What
cannot happen is no event (log entry 2), and a waiting link takes every release as that of R176 (log entry 28). -/
def Obligations.FrameBoundaries : Prop :=
  (Status.done.code = 0 ∧ Status.notFrozen.code = 1 ∧ Status.invalid.code = 2 ∧ Status.busy.code = 3 ∧
    Status.conditionPresent.code = 4 ∧ Status.frameError.code = 5 ∧ Status.unknown.code = 6) ∧
  ∀ s : State,
    (s.link.csAsserted = true → exec .csNAssert s = .next s) ∧
    (s.link.csAsserted = false → ∃ w : BitVec 32,
      exec .csNAssert s = .next { s with link := { s.link with csAsserted := true, outbound := some w } } ∧
      w.extractLsb' 16 16 = s.link.value ∧ w.extractLsb' 8 8 = s.link.status.code ∧
      w.extractLsb' 4 4 = s.link.frameCount ∧
      (w.getLsbD 3 = true ↔ ∃ n, s.traffic.flags.getLsbD n = true ∧ s.ctl.eventMask.getLsbD n = true) ∧
      (w.getLsbD 2 = true ↔ ∃ z, s.ctl.fenced z = true) ∧
      (w.getLsbD 1 = true ↔ s.ctl.governor ≠ .run) ∧
      (w.getLsbD 0 = true ↔ s.ctl.railState = .lost ∨ s.ctl.railState = .recoveredLatched ∨
        s.ctl.surgeState = .tripped) ∧
      ∀ n, ({ s.link with csAsserted := true, outbound := some w } : Link).sdo n =
        some (if n < 32 then w.getLsbD (31 - n) else false)) ∧
    (s.link.csAsserted = false → ∀ n, s.link.sdo n = none) ∧ (s.link.outbound = none → ∀ n, s.link.sdo n = none) ∧
    (s.link.awaitRelease = true → exec .powerOnCsNRelease s =
      .next { s with link := { s.link with csAsserted := false, awaitRelease := false } }) ∧
    (s.link.awaitRelease = false → exec .powerOnCsNRelease s = .next s) ∧
    (∀ n, n ≠ 32 →
      (s.link.awaitRelease = true → exec (.frameError n) s =
        .next { s with link := { s.link with csAsserted := false, awaitRelease := false } }) ∧
      (s.link.awaitRelease = false → exec (.frameError n) s = .next { s with
        traffic := { s.traffic with flags := s.traffic.flags ||| Event.frameError.mask }
        link := { s.link with
          status := .frameError
          value := 0
          csAsserted := false
          outbound := none
          frameErrors := satAdd s.link.frameErrors 1 } })) ∧
    ∀ sdi : List Bool,
      (sdi.length ≠ 32 → commandOfEdges sdi = .frameError sdi.length) ∧
      (sdi.length = 32 → ∃ w : BitVec 32, commandOfEdges sdi = commandOfFrame w ∧
        ∀ n b, sdi[n]? = some b → w.getLsbD (31 - n) = b) ∧
      ∃ t, exec .csNAssert s = .next t ∧
        step (s.withFrame sdi) = .next { t with pending := commandOfEdges sdi :: s.pending } ∧
        step { t with pending := commandOfEdges sdi :: s.pending } = exec (commandOfEdges sdi) t

/-- R157, R163, R176: every valid frame replaces the pending result and raises the frame count by one, and only the
pointer may change beside them; while the link waits for the release of CS_N no frame is taken (log entry 28). -/
def Obligations.EveryFrameReportsOnce : Prop :=
  ∀ (i : Instr) (s : State), isFrame i = true → i.wellFormed = true →
    (takesFrames s → ∃ t st v o n, exec i s = .next t ∧
      t.link = { frameEnd s.link st v with object := o, field := n } ∧
      ((∀ cls index, i ≠ .selectObject cls index) → o = s.link.object)) ∧
    (s.link.awaitRelease = true → exec i s =
      .next { s with link := { s.link with csAsserted := false, awaitRelease := false } })

/-- R160: a NOP reports DONE with value 0, a code that is not in the table UNKNOWN with value 0, and neither does anything
else; arguments and values marked unused are ignored, an all-zero frame is a NOP and an all-ones frame is UNKNOWN. Code,
argument and value stand in the inbound bits 31..24, 23..16 and 15..0 (R156). -/
def Obligations.NopAndUnknownActOnNothing : Prop :=
  (∀ s : State, takesFrames s → exec .nop s = .next (ends s .done 0)) ∧
  (∀ (code : BitVec 8) (s : State), code ∉ frameCodes → takesFrames s →
    exec (.unknown code) s = .next (ends s .unknown 0)) ∧
  frameCodes = [0x00, 0x10, 0x11, 0x20, 0x21, 0x30, 0x40, 0x41, 0x42, 0x50, 0x51, 0x52, 0x60, 0x61] ∧
  (∀ w : BitVec 32, frameCode w = w.extractLsb' 24 8) ∧
  (∀ (code a : BitVec 8) (v : Word), (frameWord code a v).extractLsb' 24 8 = code ∧
    (frameWord code a v).extractLsb' 16 8 = a ∧ (frameWord code a v).extractLsb' 0 16 = v) ∧
  (∀ w : BitVec 32, frameCode w ∉ frameCodes → commandOfFrame w = .unknown (frameCode w)) ∧
  commandOfFrame 0 = .nop ∧ commandOfFrame 0xFFFFFFFF = .unknown 0xFF ∧
  ∀ (a : BitVec 8) (v : Word),
    commandOfFrame (frameWord 0x00 a v) = .nop ∧ commandOfFrame (frameWord 0x10 a v) = .selectObject a v ∧
    commandOfFrame (frameWord 0x11 a v) = .selectField v ∧ commandOfFrame (frameWord 0x20 a v) = .read ∧
    commandOfFrame (frameWord 0x21 a v) = .write v ∧ commandOfFrame (frameWord 0x30 a v) = .clear v ∧
    commandOfFrame (frameWord 0x40 a v) = .drain ∧ commandOfFrame (frameWord 0x41 a v) = .resume ∧
    commandOfFrame (frameWord 0x42 a v) = .resetConfig ∧ commandOfFrame (frameWord 0x50 a v) = .leaseStart ∧
    commandOfFrame (frameWord 0x51 a v) = .leaseRenew ∧ commandOfFrame (frameWord 0x52 a v) = .leaseStop ∧
    commandOfFrame (frameWord 0x60 a v) = .snapshot a v ∧ commandOfFrame (frameWord 0x61 a v) = .readEvents

/-- R163: SELECT_OBJECT moves the pointer to field 0 of an object that exists, SELECT_FIELD to any field number up to 255,
and a refusal keeps the pointer. -/
def Obligations.SelectMovesThePointer : Prop :=
  ∀ (cls : BitVec 8) (n : Word) (s : State), takesFrames s →
    (∀ o, nameOf o = (cls.toNat, n.toNat) → exec (.selectObject cls n) s = .next { s with
      link := { frameEnd s.link .done n with object := o, field := 0 } }) ∧
    ((∀ o, nameOf o ≠ (cls.toNat, n.toNat)) → exec (.selectObject cls n) s =
      .next (ends s .invalid (BitVec.ofNat 16 (nameOf s.link.object).2))) ∧
    (n.toNat ≤ 255 → exec (.selectField n) s = .next { s with
      link := { frameEnd s.link .done n with field := n.setWidth 8 } }) ∧
    (255 < n.toNat → exec (.selectField n) s = .next (ends s .invalid (s.link.field.setWidth 16)))

/-- R44, R163, R164, R166: READ returns the pointed field, advances the pointer and changes nothing else; each class has
the fields of section 10.4 under their numbers (`catalogue`), each with its encoding (`fieldValue`); split fields join to their value,
signed fields read as two's complement, a SLOT field that the state lacks reads 65535, and each event flag has the bit
position of section 10.4. -/
def Obligations.ReadReturnsThePointedField : Prop :=
  (Event.zoneWarn.mask = 0x0001 ∧ Event.zoneShutdown.mask = 0x0002 ∧ Event.fenceLifted.mask = 0x0004 ∧
    Event.zoneStale.mask = 0x0008 ∧ Event.sensorFault.mask = 0x0010 ∧ Event.holdExpired.mask = 0x0020 ∧
    Event.holdForced.mask = 0x0040 ∧ Event.railLoss.mask = 0x0080 ∧ Event.railReturn.mask = 0x0100 ∧
    Event.surge.mask = 0x0200 ∧ Event.leaseViolation.mask = 0x0400 ∧ Event.frozen.mask = 0x0800 ∧
    Event.tableFull.mask = 0x1000 ∧ Event.orphanResponse.mask = 0x2000 ∧ Event.frameError.mask = 0x4000 ∧
    Event.refusedAccess.mask = 0x8000) ∧
  ∀ s : State,
    (takesFrames s →
      (∀ f, s.link.object.fieldAt s.link.field = some f →
        exec .read s = .next { s with link := fieldFrameEnd s.link .done (s.readField f) }) ∧
      (s.link.object.fieldAt s.link.field = none →
        exec .read s = .next { s with link := fieldFrameEnd s.link .invalid 0 })) ∧
    (∀ (o : ObjRef) (n : BitVec 8), (o.fieldAt n).isSome = decide (n.toNat < fieldCount o)) ∧
    (∀ (o : ObjRef) (n : BitVec 8), o.fieldAt n = (catalogue o)[n.toNat]?) ∧
    (∀ f, s.readField f = BitVec.ofInt 16 (fieldValue s f)) ∧
    (∀ z : ZoneIx,
      (creditOk s.ctl s.traffic → s.ctl.zones[z].ceiling ≤ 65535 →
        (s.readField (.zone z (.credit .high)) ++ s.readField (.zone z (.credit .low))).toInt = s.traffic.credit z) ∧
      (controlOk s.ctl.zones[z].control →
        (s.readField (.zone z (.u .high)) ++ s.readField (.zone z (.u .low))).toInt = s.ctl.zones[z].control.u ∧
        (s.readField (.zone z (.sampleSum .high)) ++ s.readField (.zone z (.sampleSum .low))).toInt =
          s.ctl.zones[z].control.sampleSum ∧
        (s.readField (.zone z .setpoint)).toInt = s.ctl.zones[z].control.setpoint ∧
        (s.readField (.zone z .e1)).toInt = s.ctl.zones[z].control.e1 ∧
        (s.readField (.zone z .e2)).toInt = s.ctl.zones[z].control.e2) ∧
      (monitorOk s.ctl.zones[z].monitor →
        (s.readField (.zone z .warnLow)).toInt = s.ctl.zones[z].monitor.warnLow ∧
        (s.readField (.zone z .warnHigh)).toInt = s.ctl.zones[z].monitor.warnHigh ∧
        (s.readField (.zone z .shutdown)).toInt = s.ctl.zones[z].monitor.shutdown) ∧
      ∀ k, s.readField (.zone z (.counter k .high)) ++ s.readField (.zone z (.counter k .low)) =
        (s.traffic.account z).counters.get k) ∧
    (∀ w : WinIx,
      (s.readField (.window w (.base .high))).toNat * 65536 + (s.readField (.window w (.base .low))).toNat =
        s.ctl.windows[w].basePage.toNat ∧
      (s.readField (.window w (.limit .high))).toNat * 65536 + (s.readField (.window w (.limit .low))).toNat =
        s.ctl.windows[w].limitPage.toNat) ∧
    (∀ ch : ChanIx, channelRecOk s.ctl.channels[ch] →
      (s.readField (.channel ch .offset)).toInt = s.ctl.channels[ch].offset ∧
      (s.readField (.channel ch .lastSample)).toInt = s.ctl.channels[ch].lastSample) ∧
    s.readField (.global (.intakeStalls .high)) ++ s.readField (.global (.intakeStalls .low)) =
      s.traffic.intakeStalls ∧
    s.readField (.global (.orphans .high)) ++ s.readField (.global (.orphans .low)) = s.traffic.orphans ∧
    s.readField (.global (.frameErrors .high)) ++ s.readField (.global (.frameErrors .low)) = s.link.frameErrors ∧
    (∀ k, s.readField (.snapshot (.counter k .high)) ++ s.readField (.snapshot (.counter k .low)) =
      s.ctl.snapshot.counters.get k) ∧
    ∀ i : SlotIx,
      ((s.traffic.slot i).state.isHeld = false →
        s.readField (.slot i .reasons) = 65535 ∧ s.readField (.slot i .age) = 65535) ∧
      ((s.traffic.slot i).state.isAnswering = false → s.readField (.slot i .answerStatus) = 65535) ∧
      ((s.traffic.slot i).state.isForwarded = false → s.readField (.slot i .responsePresent) = 65535) ∧
      (s.readField (.slot i (.page .high))).toNat * 65536 + (s.readField (.slot i (.page .low))).toNat =
        (byteAddr (s.traffic.slot i).beatAddr).toNat / 4096 ∧
      (s.readField (.slot i .beat)).toNat = (byteAddr (s.traffic.slot i).beatAddr).toNat / 16 % 256

/-- R50, R144, R154, R165: the checks of a WRITE in their order: the first that fails decides the status, the field keeps
its value and the pointer advances all the same. -/
def Obligations.WriteChecksInOrder : Prop :=
  ∀ (v : Word) (s : State), takesFrames s →
    (s.link.object.fieldAt s.link.field = none →
      exec (.write v) s = .next { s with link := fieldFrameEnd s.link .invalid 0 }) ∧
    ∀ f, s.link.object.fieldAt s.link.field = some f →
      (isReadOnly f → exec (.write v) s = .next { s with link := fieldFrameEnd s.link .invalid (s.readField f) }) ∧
      (isStructural f → s.ctl.governor ≠ .frozen →
        exec (.write v) s = .next { s with link := fieldFrameEnd s.link .notFrozen (s.readField f) }) ∧
      (isLeaseTerm f → s.ctl.lease.state ≠ .stopped →
        exec (.write v) s = .next { s with link := fieldFrameEnd s.link .busy (s.readField f) }) ∧
      (¬ isReadOnly f → (isStructural f → s.ctl.governor = .frozen) →
        (isLeaseTerm f → s.ctl.lease.state = .stopped) →
        (¬ fieldTakes s v f →
          exec (.write v) s = .next { s with link := fieldFrameEnd s.link .invalid (s.readField f) }) ∧
        (fieldTakes s v f → ∃ t, s.storeField v f = some t ∧ exec (.write v) s = .next (accepted t v)))

/-- R53, R58, R60, R78, R122, R125, R134, R138, R144, R165, R169: an accepted write leaves the field reading the value
written and does not touch the link or the queue; a write of a plain field changes no other readable field, nothing on
the transaction path and nothing that the control side holds beside its settings: timers run on but for the restarts of
R60 and R111 (log entry 31), the time left of a running filter, the lease's time, the conversion, averages and pins stay, and INDICATE
but for the blanking of R175. -/
def Obligations.PlainWritesChangeOneField : Prop :=
  ∀ (v : Word) (f : Field) (s t : State), s.storeField v f = some t →
    t.readField f = v ∧ t.link = s.link ∧ t.pending = s.pending ∧ t.freeCount = s.freeCount ∧
      t.due = (if f = .global .refillPeriod then noTimerExpiry s.due
        else if f = .global .controlDivisor then noControlTick s.due else s.due) ∧
      (isPlain f → t.traffic = s.traffic ∧ (∀ g, g ≠ f → t.readField g = s.readField g) ∧
        t.ctl = { s.ctl with
          refillPeriod := t.ctl.refillPeriod
          controlDivisor := t.ctl.controlDivisor
          refillElapsed := if f = .global .refillPeriod then 0 else s.ctl.refillElapsed
          controlElapsed :=
            if f = .global .refillPeriod ∨ f = .global .controlDivisor then 0 else s.ctl.controlElapsed
          ungovernedLimit := t.ctl.ungovernedLimit
          windows := t.ctl.windows
          zones := t.ctl.zones
          channels := t.ctl.channels
          railFilter := t.ctl.railFilter
          surgeFilter := t.ctl.surgeFilter
          lease := { s.ctl.lease with
            openTime := t.ctl.lease.openTime
            closeTime := t.ctl.lease.closeTime
            response := t.ctl.lease.response }
          eventMask := t.ctl.eventMask
          indicator := if f = .global .indicatorSource then
              { source := t.ctl.indicator.source, blanking := 2, duty := { num := 0, den := 1 } }
            else s.ctl.indicator } ∧
        (∀ z : ZoneIx, t.ctl.zones[z] = settingsFrom t.ctl.zones[z] s.ctl.zones[z] ∧
          ((∀ g, f ≠ .zone z g) → t.ctl.zones[z] = s.ctl.zones[z])) ∧
        (∀ w : WinIx, (∀ g, f ≠ .window w g) → t.ctl.windows[w] = s.ctl.windows[w]) ∧
        ∀ ch : ChanIx,
          t.ctl.channels[ch] = { s.ctl.channels[ch] with
            divisor := t.ctl.channels[ch].divisor, offset := t.ctl.channels[ch].offset } ∧
          ((∀ g, f ≠ .channel ch g) → t.ctl.channels[ch] = s.ctl.channels[ch]))

/-- R60, R72, R105, R111, R119 to R121, R126, R129, R136, R140, R165, R169, R175 (log entry 7): each row named by the field
it writes is the WRITE frame, in every state; with the pointer at its field it stores what the field's rule says. -/
def Obligations.NamedWritesAreWriteFrames : Prop :=
  ∀ (i : Instr) (f : Field) (v : Word) (s : State), namesField i f v →
    exec i s = exec (.write v) s ∧
    (takesFrames s → s.link.object.fieldAt s.link.field = some f → fieldTakes s v f →
      (isStructural f → s.ctl.governor = .frozen) →
      ∃ t, s.storeField v f = some t ∧ exec i s = .next (accepted t v))

/-- R30, R31, R60, R105, R107, R111, R123, R129, R169: accepted writes of the refill period, the control divisor, a quota, a
channel's enabled field, the fence scope and the event mask. A timer that a write restarts loses the expiry that waits to
be taken (log entry 31 on a refill expiry taken in part). -/
def Obligations.AcceptedTimerQuotaChannelWrites : Prop :=
  ∀ (v : Word) (s : State),
    (pointsAt s .global 7 → between 1 1023 v → exec (.refillPeriodWrite v) s = .next (accepted { s with
      due := noTimerExpiry s.due
      ctl := { s.ctl with refillPeriod := v.toNat, refillElapsed := 0, controlElapsed := 0 } } v)) ∧
    (pointsAt s .global 8 → between 1 255 v → exec (.controlDivisorWrite v) s = .next (accepted { s with
      due := noControlTick s.due
      ctl := { s.ctl with controlDivisor := v.toNat, controlElapsed := 0 } } v)) ∧
    (∀ p, pointsAt s .global (if p = .a then 5 else 6) → s.ctl.governor = .frozen → between 1 64 v →
      let c : Ctl := { s.ctl with quotas := s.ctl.quotas.set p v.toNat }
      ∃ u, exec (.quotaWrite v) s = .next (accepted (({ s with ctl := c } : State).onPath u) v) ∧
        (s.ctl.resetAsserted = true → u = s.traffic) ∧
        (s.ctl.resetAsserted = false → examined c p s.traffic u)) ∧
    (∀ ch, pointsAt s (.channel ch) 0 → s.ctl.governor = .frozen →
      (v = 1 → ∃ chs : Vector Channel 8,
        (∀ k : ChanIx, chs[k] = if k = ch then { s.ctl.channels[k] with enabled := true } else s.ctl.channels[k]) ∧
        exec (.channelEnableWrite v) s = .next (accepted { s with ctl := { s.ctl with channels := chs } } v)) ∧
      (v = 0 → ∃ chs : Vector Channel 8,
        (∀ k : ChanIx, chs[k] = if k = ch ∧ s.ctl.channels[k].enabled = true then
            { s.ctl.channels[k] with enabled := false, lastValid := false, fault := false }
          else s.ctl.channels[k]) ∧
        exec (.channelEnableWrite v) s = .next (accepted { s with
          ctl := { s.ctl with
            channels := chs
            conversion := s.ctl.conversion.map fun x => if x.channel = ch then { x with discard := true } else x } }
          v))) ∧
    (pointsAt s .global 10 → between 0 1 v → exec (.fenceScopeWrite v) s =
      .next (accepted (follows s none { s.ctl with scopeAll := decide (v = 1) }) v)) ∧
    (pointsAt s .global 23 → exec (.eventMaskWrite v) s =
      .next (accepted { s with ctl := { s.ctl with eventMask := v } } v))

/-- R72, R112, R119, R120, R121: accepted writes of a zone's ceiling, configured mode, sensor, rates and rate limits. -/
def Obligations.AcceptedZoneControlWrites : Prop :=
  ∀ (v : Word) (s : State) (z : ZoneIx),
    let k := s.ctl.zones[z].control
    (pointsAt s (.zone z) 2 → between 1 65535 v → ∃ c u, exec (.ceilingWrite v) s =
        .next (accepted { s with ctl := c, traffic := u } v) ∧
      c = { s.ctl with zones := c.zones } ∧ u = { s.traffic with accounts := u.accounts } ∧
      (∀ y : ZoneIx, c.zones[y] =
        if y = z then { s.ctl.zones[y] with ceiling := v.toNat } else s.ctl.zones[y]) ∧
      ∀ y, u.account y = if y = z then
          { s.traffic.account y with
            credit := if v.toNat < s.traffic.credit y then (v.toNat : Int)
              else if s.traffic.credit y < -(v.toNat : Int) then -(v.toNat : Int)
              else s.traffic.credit y }
        else s.traffic.account y) ∧
    (pointsAt s (.zone z) 8 → s.ctl.governor = .frozen → between 0 7 v ∨ (v = 8 ∧ k.mode ≠ .pi) →
      ∃ ch, (∀ n, ch = some n → n.val = v.toNat) ∧ (ch = none → v = 8) ∧
        exec (.sensorWrite v) s = .next (accepted { s with
          ctl := controlOf s.ctl z { k with sensor := ch, sampleSum := 0, sampleCount := 0 } } v)) ∧
    (pointsAt s (.zone z) 9 → controlOk k →
      (v = 0 → exec (.configuredModeWrite v) s = .next (accepted { s with
        ctl := controlOf s.ctl z (entered { k with mode := .openLoop, staleRun := 0, causeStale := false }) } v)) ∧
      (v = 1 → k.sensor ≠ none → exec (.configuredModeWrite v) s = .next (accepted { s with
        ctl := controlOf s.ctl z (if k.mode = .pi then k else entered { k with mode := .pi }) } v))) ∧
    (pointsAt s (.zone z) 10 → between 0 4095 v → exec (.openRateWrite v) s = .next (accepted { s with
      ctl := controlOf s.ctl z
        { k with openRate := v.toNat, rate := if k.source = .openLoop then v.toNat else k.rate } } v)) ∧
    (pointsAt s (.zone z) 11 → between 0 4095 v → exec (.fallbackRateWrite v) s = .next (accepted { s with
      ctl := controlOf s.ctl z
        { k with fallbackRate := v.toNat, rate := if k.source = .fallback then v.toNat else k.rate } } v)) ∧
    (pointsAt s (.zone z) 16 → v.toNat ≤ k.rateMax → k.rateMax ≤ 4095 →
      let u := max (v.toNat * 256 : Int) (min (k.rateMax * 256) k.u)
      exec (.rateMinWrite v) s = .next (accepted { s with
        ctl := controlOf s.ctl z
          { k with rateMin := v.toNat, u := u, rate := if k.source = .pi then (u / 256).toNat else k.rate } } v)) ∧
    (pointsAt s (.zone z) 17 → between k.rateMin 4095 v →
      let u := max (k.rateMin * 256 : Int) (min (v.toNat * 256) k.u)
      exec (.rateMaxWrite v) s = .next (accepted { s with
        ctl := controlOf s.ctl z
          { k with rateMax := v.toNat, u := u, rate := if k.source = .pi then (u / 256).toNat else k.rate } } v))

/-- R125, R126, R129, R134, R136, R138, R140: accepted and refused writes of a monitor mode, the rail mode and the surge
mode. -/
def Obligations.AcceptedMonitorModeWrites : Prop :=
  ∀ (v : Word) (s : State),
    (∀ z, pointsAt s (.zone z) 32 → between 0 3 v →
      let m := s.ctl.zones[z].monitor
      ∃ m1, exec (.monitorModeWrite v) s = .next (accepted (follows s none (monitorOf s.ctl z m1)) v) ∧
        (m1.mode = if v = 0 then .off else if v = 1 then .warn else if v = 2 then .cycle else .latched) ∧
        m1 = { m with mode := m1.mode, warnLevel := m1.warnLevel, overRun := m1.overRun, tripped := m1.tripped } ∧
        (m1.mode ≠ m.mode → m1.mode = .off ∨ m.mode = .off →
          m1.warnLevel = .none ∧ m1.overRun = 0 ∧ m1.tripped = false) ∧
        (m1.mode = m.mode ∨ (m1.mode ≠ .off ∧ m.mode ≠ .off) →
          m1.warnLevel = m.warnLevel ∧ m1.overRun = m.overRun ∧ m1.tripped = m.tripped)) ∧
    (∀ z, pointsAt s (.zone z) 32 → 3 < v.toNat → exec (.monitorModeWrite v) s =
      .next { s with link := fieldFrameEnd s.link .invalid s.ctl.zones[z].monitor.mode.code }) ∧
    (pointsAt s .global 11 → exec (.railModeWrite v) s = .next (
      if v = 0 then
        if s.ctl.railMode = .off then accepted s v
        else accepted (follows s none { s.ctl with railMode := .off, railState := .idle }) v
      else if v = 1 then
        match s.ctl.railMode with
        | .auto => accepted s v
        | .off => accepted (follows s none { s.ctl with
            railMode := .auto
            railState := if s.ctl.railGood = true then .good else .filtering s.ctl.railFilter }) v
        | .latched =>
          if s.ctl.railState = .recoveredLatched then
            accepted (follows s (some .railReturn) { s.ctl with railMode := .auto, railState := .good }) v
          else accepted (follows s none { s.ctl with railMode := .auto }) v
      else if v = 2 then
        match s.ctl.railMode with
        | .latched => accepted s v
        | .off => accepted (follows s none { s.ctl with
            railMode := .latched
            railState := if s.ctl.railGood = true then .good else .filtering s.ctl.railFilter }) v
        | .auto => accepted (follows s none { s.ctl with railMode := .latched }) v
      else { s with link := fieldFrameEnd s.link .invalid s.ctl.railMode.code })) ∧
    (pointsAt s .global 14 →
      let started : SurgeState := match s.ctl.surgeFilter with
        | .none => .tripped
        | .us1 => .filtering 1
        | .us4 => .filtering 4
        | .us16 => .filtering 16
      exec (.surgeModeWrite v) s = .next (
        if v = 0 then
          if s.ctl.surgeMode = .off then accepted s v
          else accepted (follows s none { s.ctl with surgeMode := .off, surgeState := .idle }) v
        else if v = 1 ∨ v = 2 then
          let mode : SurgeMode := if v = 1 then .cycle else .latched
          if s.ctl.surgeMode = mode then accepted s v
          else if s.ctl.surgeMode = .off then
            accepted (follows s
              (if s.ctl.surgeAsserted = true ∧ s.ctl.surgeFilter = .none ∧ s.ctl.surgeState ≠ .tripped then
                some .surge else none)
              { s.ctl with
                surgeMode := mode
                surgeState := if s.ctl.surgeAsserted = true then started else .armed }) v
          else accepted (follows s none { s.ctl with surgeMode := mode }) v
        else { s with link := fieldFrameEnd s.link .invalid s.ctl.surgeMode.code }))

/-- R132, R136, R140, R148, R162: CLEAR acts on the parts of its mask, in the order of their bits (log entry 25), each on
what the parts before it left; the value names the parts that reported CONDITION_PRESENT. The rows CLEAR_FENCES,
CLEAR_RAIL, CLEAR_SURGE and CLEAR_LEASE are the frames with one bit (log entry 8). -/
def Obligations.ClearActsOnItsParts : Prop :=
  ∀ s : State, takesFrames s →
    (∀ mask : Word, 15 < mask.toNat → exec (.clear mask) s = .next (ends s .invalid 0)) ∧
    (exec (.clear 0) s = .next (ends s .done 0)) ∧
    exec .clearFences s = exec (.clear 1) s ∧ exec .clearRail s = exec (.clear 2) s ∧
    exec .clearSurge s = exec (.clear 4) s ∧ exec .clearLease s = exec (.clear 8) s ∧
    (∃ c, c = { s.ctl with zones := c.zones } ∧
      (∀ z : ZoneIx, (clearReleases s.ctl z → c.zones[z] = { s.ctl.zones[z] with
          monitor := { s.ctl.zones[z].monitor with tripped := false, overRun := 0 } }) ∧
        (¬ clearReleases s.ctl z → c.zones[z] = s.ctl.zones[z])) ∧
      ((∀ z : ZoneIx, c.zones[z].monitor.tripped = false) →
        exec .clearFences s = .next (ends (follows s none c) .done 0)) ∧
      (¬ (∀ z : ZoneIx, c.zones[z].monitor.tripped = false) →
        exec .clearFences s = .next (ends (follows s none c) .conditionPresent 1))) ∧
    exec .clearRail s = .next (
      if s.ctl.railState = .recoveredLatched then
        ends (follows s (some .railReturn) { s.ctl with railState := .good }) .done 0
      else if s.ctl.railState = .lost then ends s .conditionPresent 2
      else ends s .done 0) ∧
    exec .clearSurge s = .next (
      if s.ctl.surgeState = .tripped then
        if s.ctl.surgeAsserted = true then ends s .conditionPresent 4
        else ends (follows s none { s.ctl with surgeState := .armed }) .done 0
      else ends s .done 0) ∧
    exec .clearLease s = .next (
      if s.ctl.lease.state = .violated then ends { s with
        ctl := { s.ctl with
          lease := { s.ctl.lease with state := .stopped, timer := 0, micros := 0, kind := .none }
          zones := s.ctl.zones.map fun z => { z with control := entered { z.control with causeLease := false } } } }
        .done 0
      else ends s .done 0) ∧
    ∀ mask : Word, mask.toNat ≤ 15 →
      ∃ s0 s1 s2 s3 : State, ∃ v : Word,
        (mask.getLsbD 0 = false → s0 = s ∧ v.getLsbD 0 = false) ∧
        (mask.getLsbD 0 = true → s0 = s.clearFences.2 ∧ v.getLsbD 0 = s.clearFences.1) ∧
        (mask.getLsbD 1 = false → s1 = s0 ∧ v.getLsbD 1 = false) ∧
        (mask.getLsbD 1 = true → s1 = s0.clearRail.2 ∧ v.getLsbD 1 = s0.clearRail.1) ∧
        (mask.getLsbD 2 = false → s2 = s1 ∧ v.getLsbD 2 = false) ∧
        (mask.getLsbD 2 = true → s2 = s1.clearSurge.2 ∧ v.getLsbD 2 = s1.clearSurge.1) ∧
        (mask.getLsbD 3 = false → s3 = s2 ∧ v.getLsbD 3 = false) ∧
        (mask.getLsbD 3 = true → s3 = s2.clearLease.2 ∧ v.getLsbD 3 = s2.clearLease.1) ∧
        v.toNat ≤ 15 ∧
        exec (.clear mask) s = .next (ends s3 (if v = 0 then .done else .conditionPresent) v)

/-! ### Events, counters, the indicator (Chapter 11) -/

/-- R161, R170, R173: READ_EVENTS returns the set flags and clears exactly those; SNAPSHOT copies a zone's counters and
longest hold and, with clear-after, sets them to 0, or is refused INVALID and leaves all as it is. -/
def Obligations.SnapshotAndReadEvents : Prop :=
  ∀ s : State, takesFrames s →
    exec .readEvents s = .next (ends { s with traffic := { s.traffic with flags := 0 } } .done s.traffic.flags) ∧
    ∀ (arg : BitVec 8) (v : Word),
      (7 < arg.toNat ∨ 1 < v.toNat → exec (.snapshot arg v) s = .next (ends s .invalid 0)) ∧
      ∀ z : ZoneIx, arg.toNat = z.val → v.toNat ≤ 1 → ∃ u,
        exec (.snapshot arg v) s = .next (ends { s with
          ctl := { s.ctl with
            snapshot :=
              { zone := some z
                counters := (s.traffic.account z).counters
                longestHold := (s.traffic.account z).longestHold } }
          traffic := u } .done 0) ∧
        u = { s.traffic with accounts := u.accounts } ∧
        ∀ y, u.account y = if y = z ∧ v = 1 then
            { s.traffic.account y with counters := ZoneCounters.zero, longestHold := 0 }
          else s.traffic.account y

/-- R174, R175: an accepted write of the indicator source holds INDICATE low and starts two control ticks of blanking; a
new duty takes effect at the start of a repetition period, low while blanking. -/
def Obligations.IndicatorFollowsItsSource : Prop :=
  ∀ s : State,
    (∀ v : Word, pointsAt s .global 25 →
      (∀ x, x.code = v → exec (.indicatorSourceWrite v) s = .next (accepted { s with
        ctl := { s.ctl with indicator := { source := x, blanking := 2, duty := { num := 0, den := 1 } } } } v)) ∧
      ((∀ x : IndicatorSource, x.code ≠ v) → exec (.indicatorSourceWrite v) s =
        .next { s with link := fieldFrameEnd s.link .invalid s.ctl.indicator.source.code })) ∧
    exec .repetitionPeriodStart s = .next { s with
      ctl := { s.ctl with
        indicator := { s.ctl.indicator with
          duty := if s.ctl.indicator.blanking ≠ 0 then { num := 0, den := 1 } else dutyOf s.ctl s.traffic } } }

/-! ### What every step keeps -/

/-- R2 to R9, R25, R26, R35, R37, R39, R91: the structure of the table, the pool and the three ports is kept by every
step: each non-FREE slot once in the acceptance order, each READY slot once in the ready queue with the offered slot at
its head, response present yes on the slot matched to the response on the channel alone, every current offer on a
deliverable chain head, the pool holding exactly the beats of the HELD and READY writes. -/
def Obligations.TableStructureIsKept : Prop :=
  ∀ s t : State, step s = .next t →
    tableOk s.traffic → poolOk s.traffic → standingOk s.traffic → resetOk s.ctl s.traffic →
    tableOk t.traffic ∧ poolOk t.traffic ∧ standingOk t.traffic ∧ resetOk t.ctl t.traffic

/-- R11, R17, R19, R63, R68, R77, R88: after every step a HELD slot's reasons are exactly those the rules give, a slot on
its way to memory is paid and stands behind no HELD slot of its key, an answered slot is unpaid, and ages fall along the
held list. -/
def Obligations.HoldReasonsAreKept : Prop :=
  ∀ s t : State, step s = .next t → pathOk s.ctl s.traffic →
    holdsOk t.ctl t.traffic ∧ agesOk t.traffic ∧ longestOk t.traffic

/-- R64, R130: after every step no HELD slot belongs to a fenced zone and no zone's candidate costs at most the zone's
credit. -/
def Obligations.NothingPayableOrFencedStaysHeld : Prop :=
  ∀ s t : State, step s = .next t → pathOk s.ctl s.traffic → fencesOk t.ctl t.traffic ∧ paidUp t.traffic

/-- R31, R37, R92, R149, R150: after every step a standing request is one that cannot be taken, the memory port and the
arbiters offer what they may, FROZEN has no slot READY or FORWARDED and DRAINING has one. -/
def Obligations.PromptStatesStayPrompt : Prop :=
  ∀ s t : State, step s = .next t → pathOk s.ctl s.traffic → globalsOk s.ctl → promptOk s.ctl s.traffic →
    promptOk t.ctl t.traffic

/-- R52, R60, R104 to R144, R174 to R176: every record of the control side stays in its range and consistent, and so does
the link. -/
def Obligations.ControlSideStaysInRange : Prop :=
  ∀ s t : State, step s = .next t → ctlOk s.ctl → linkOk s.link → ctlOk t.ctl ∧ linkOk t.link

/-- R56: every credit stays between minus and plus its zone's ceiling. -/
def Obligations.CreditStaysWithinCeiling : Prop :=
  ∀ s t : State, step s = .next t → creditOk s.ctl s.traffic → creditOk t.ctl t.traffic

/-- R168, R171, R172: a flag goes from set to clear only through READ_EVENTS or power-on reset, the global counters fall
only at power-on reset, and a zone's counters only there and at a SNAPSHOT; a counter stops at 4294967295. -/
def Obligations.FlagsStaySetAndCountersRise : Prop :=
  (∀ (c : Counter) (n : Nat), (satAdd c n).toNat = min (c.toNat + n) 4294967295) ∧
  ∀ (i : Instr) (s t : State), exec i s = .next t → i ≠ .powerOnReset →
    (i ≠ .readEvents → ∀ n, s.traffic.flags.getLsbD n = true → t.traffic.flags.getLsbD n = true) ∧
    s.traffic.intakeStalls ≤ t.traffic.intakeStalls ∧ s.traffic.orphans ≤ t.traffic.orphans ∧
    s.link.frameErrors ≤ t.link.frameErrors ∧
    ((∀ arg v, i ≠ .snapshot arg v) → ∀ z k,
      (s.traffic.account z).counters.get k ≤ (t.traffic.account z).counters.get k)

/-- R2, R16: a slot that is not FREE keeps its port, id, direction, address and length, steps forward along the table of
transitions only, and keeps window, zone and cost but for a HELD slot at RESUME; resets and its own delivery aside. -/
def Obligations.SlotStatesNeverStepBack : Prop :=
  ∀ (i : Instr) (s t : State) (j : SlotIx), exec i s = .next t → tableOk s.traffic →
    i ≠ .powerOnReset → i ≠ .resetNAssert →
    (∀ p o, i = .delivery p → s.traffic.resps.get p = some o → o.slot ≠ j) → (s.traffic.slot j).state ≠ .free →
    let a := s.traffic.slot j
    let b := t.traffic.slot j
    b.port = a.port ∧ b.id = a.id ∧ b.dir = a.dir ∧ b.beatAddr = a.beatAddr ∧ b.length = a.length ∧
      (i ≠ .resume ∨ a.state.isHeld = false → b.window = a.window ∧ b.zone = a.zone ∧ b.cost = a.cost) ∧
      (a.state.isHeld = true → b.state.isHeld = true ∨ b.state = .ready ∨ b.state.isAnswering = true) ∧
      (a.state = .ready → b.state = .ready ∨ b.state = .forwarded false ∧ i = .memoryTake) ∧
      (a.state.isForwarded = true → b.state.isForwarded = true) ∧
      (a.state.isAnswering = true → b.state = a.state)
end

