-- ==== Sys2Proof/Laws/State.lean ====
section
/-! SUPPORT. One lemma per field per update, true by `rfl`, so that no proof unfolds a record update; and reading back
after `put`, `adjust`, `Both.set`, `setSlot` and `setAccount`. -/

namespace Sys2Proof.Machine

/-! ### Vectors and pairs -/

@[simp] theorem getElem_put {α : Type} {n : Nat} (v : Vector α n) (i : Fin n) (x : α) (k : Nat) (h : k < n) :
    (put v i x)[k] = if i.val = k then x else v[k] := by simp [put, Vector.getElem_set]

theorem get_put {α : Type} {n : Nat} (v : Vector α n) (i j : Fin n) (x : α) :
    (put v i x)[j] = if i = j then x else v[j] := by simp [Fin.val_inj]

theorem get_put_ne {α : Type} {n : Nat} (v : Vector α n) {i j : Fin n} (x : α) (h : i ≠ j) : (put v i x)[j] = v[j] := by
  simp [get_put, h, -Fin.getElem_fin]

@[simp] theorem getElem_adjust {α : Type} {n : Nat} (v : Vector α n) (i : Fin n) (f : α → α) (k : Nat) (h : k < n) :
    (adjust v i f)[k] = if i.val = k then f v[k] else v[k] := by
  simp only [adjust, getElem_put]; split <;> simp_all

theorem get_adjust {α : Type} {n : Nat} (v : Vector α n) (i j : Fin n) (f : α → α) :
    (adjust v i f)[j] = if i = j then f v[j] else v[j] := by simp [Fin.val_inj]

@[simp] theorem put_get {α : Type} {n : Nat} (v : Vector α n) (i : Fin n) : put v i v[i] = v := by
  ext k h; simp only [getElem_put]; split <;> simp_all

@[simp] theorem Both.get_set_self {α : Type} (b : Both α) (p : Port) (x : α) : (b.set p x).get p = x := by
  cases p <;> rfl

@[simp] theorem Both.get_set_other {α : Type} (b : Both α) (p : Port) (x : α) :
    (b.set p x).get (otherPort p) = b.get (otherPort p) := by cases p <;> rfl

theorem Both.get_set {α : Type} (b : Both α) (p q : Port) (x : α) :
    (b.set p x).get q = if p = q then x else b.get q := by cases p <;> cases q <;> rfl

@[simp] theorem Both.set_get {α : Type} (b : Both α) (p : Port) : b.set p (b.get p) = b := by cases p <;> rfl

/-! ### Traffic -/

namespace Traffic

variable (t : Traffic) (i j : SlotIx) (x : Slot) (z y : ZoneIx) (a : Account) (r : Int)

@[simp] theorem slot_setSlot_self : (t.setSlot i x).slot i = x := by simp [slot, setSlot]
theorem slot_setSlot : (t.setSlot i x).slot j = if i = j then x else t.slot j := by
  simp [slot, setSlot, Fin.val_inj]
theorem slot_setSlot_ne (h : i ≠ j) : (t.setSlot i x).slot j = t.slot j := by simp [slot_setSlot, h]
@[simp] theorem setSlot_slots : (t.setSlot i x).slots = put t.slots i x := rfl
@[simp] theorem setSlot_order : (t.setSlot i x).order = t.order := rfl
@[simp] theorem setSlot_ready : (t.setSlot i x).ready = t.ready := rfl
@[simp] theorem setSlot_pool : (t.setSlot i x).pool = t.pool := rfl
@[simp] theorem setSlot_offers : (t.setSlot i x).offers = t.offers := rfl
@[simp] theorem setSlot_nextWinner : (t.setSlot i x).nextWinner = t.nextWinner := rfl
@[simp] theorem setSlot_memOffer : (t.setSlot i x).memOffer = t.memOffer := rfl
@[simp] theorem setSlot_memChannel : (t.setSlot i x).memChannel = t.memChannel := rfl
@[simp] theorem setSlot_memBacklog : (t.setSlot i x).memBacklog = t.memBacklog := rfl
@[simp] theorem setSlot_resps : (t.setSlot i x).resps = t.resps := rfl
@[simp] theorem setSlot_accounts : (t.setSlot i x).accounts = t.accounts := rfl
@[simp] theorem setSlot_flags : (t.setSlot i x).flags = t.flags := rfl
@[simp] theorem setSlot_intakeStalls : (t.setSlot i x).intakeStalls = t.intakeStalls := rfl
@[simp] theorem setSlot_orphans : (t.setSlot i x).orphans = t.orphans := rfl
@[simp] theorem setSlot_account : (t.setSlot i x).account z = t.account z := rfl
@[simp] theorem setSlot_credit : (t.setSlot i x).credit z = t.credit z := rfl

@[simp] theorem account_setAccount_self : (t.setAccount z a).account z = a := by simp [account, setAccount]
theorem account_setAccount : (t.setAccount z a).account y = if z = y then a else t.account y := by
  simp [account, setAccount, Fin.val_inj]
@[simp] theorem setAccount_slots : (t.setAccount z a).slots = t.slots := rfl
@[simp] theorem setAccount_order : (t.setAccount z a).order = t.order := rfl
@[simp] theorem setAccount_ready : (t.setAccount z a).ready = t.ready := rfl
@[simp] theorem setAccount_pool : (t.setAccount z a).pool = t.pool := rfl
@[simp] theorem setAccount_offers : (t.setAccount z a).offers = t.offers := rfl
@[simp] theorem setAccount_nextWinner : (t.setAccount z a).nextWinner = t.nextWinner := rfl
@[simp] theorem setAccount_memOffer : (t.setAccount z a).memOffer = t.memOffer := rfl
@[simp] theorem setAccount_memChannel : (t.setAccount z a).memChannel = t.memChannel := rfl
@[simp] theorem setAccount_memBacklog : (t.setAccount z a).memBacklog = t.memBacklog := rfl
@[simp] theorem setAccount_resps : (t.setAccount z a).resps = t.resps := rfl
@[simp] theorem setAccount_flags : (t.setAccount z a).flags = t.flags := rfl
@[simp] theorem setAccount_intakeStalls : (t.setAccount z a).intakeStalls = t.intakeStalls := rfl
@[simp] theorem setAccount_orphans : (t.setAccount z a).orphans = t.orphans := rfl
@[simp] theorem setAccount_slot : (t.setAccount z a).slot i = t.slot i := rfl

@[simp] theorem credit_setCredit_self : (t.setCredit z r).credit z = r := by simp [credit, setCredit]
theorem credit_setCredit : (t.setCredit z r).credit y = if z = y then r else t.credit y := by
  simp only [credit, setCredit, account_setAccount]; split <;> simp_all
@[simp] theorem setCredit_slots : (t.setCredit z r).slots = t.slots := rfl
@[simp] theorem setCredit_slot : (t.setCredit z r).slot i = t.slot i := rfl
@[simp] theorem setCredit_order : (t.setCredit z r).order = t.order := rfl
@[simp] theorem setCredit_ready : (t.setCredit z r).ready = t.ready := rfl
@[simp] theorem setCredit_pool : (t.setCredit z r).pool = t.pool := rfl
@[simp] theorem setCredit_offers : (t.setCredit z r).offers = t.offers := rfl
@[simp] theorem setCredit_memOffer : (t.setCredit z r).memOffer = t.memOffer := rfl
@[simp] theorem setCredit_memChannel : (t.setCredit z r).memChannel = t.memChannel := rfl
@[simp] theorem setCredit_resps : (t.setCredit z r).resps = t.resps := rfl
@[simp] theorem setCredit_flags : (t.setCredit z r).flags = t.flags := rfl

@[simp] theorem raise_slots (e : Event) : (t.raise e).slots = t.slots := rfl
@[simp] theorem raise_slot (e : Event) : (t.raise e).slot i = t.slot i := rfl
@[simp] theorem raise_order (e : Event) : (t.raise e).order = t.order := rfl
@[simp] theorem raise_ready (e : Event) : (t.raise e).ready = t.ready := rfl
@[simp] theorem raise_pool (e : Event) : (t.raise e).pool = t.pool := rfl
@[simp] theorem raise_accounts (e : Event) : (t.raise e).accounts = t.accounts := rfl
@[simp] theorem raise_flags (e : Event) : (t.raise e).flags = t.flags ||| e.mask := rfl
@[simp] theorem raiseIf_true (e : Event) : t.raiseIf true e = t.raise e := rfl
@[simp] theorem raiseIf_false (e : Event) : t.raiseIf false e = t := rfl

@[simp] theorem freeBeats_slots : (t.freeBeats i).slots = t.slots := rfl
@[simp] theorem freeBeats_slot : (t.freeBeats i).slot j = t.slot j := rfl
@[simp] theorem freeBeats_order : (t.freeBeats i).order = t.order := rfl
@[simp] theorem freeBeats_accounts : (t.freeBeats i).accounts = t.accounts := rfl
@[simp] theorem freeBeats_pool : (t.freeBeats i).pool = put t.pool i [] := rfl

@[simp] theorem place_slot_self (bs : List WriteBeat) : (t.place i x bs).slot i = x := by simp [slot, place, setSlot]
theorem place_slot (bs : List WriteBeat) : (t.place i x bs).slot j = if i = j then x else t.slot j := by
  simp [slot, place, setSlot, Fin.val_inj]
@[simp] theorem place_order (bs : List WriteBeat) : (t.place i x bs).order = t.order ++ [i] := rfl
@[simp] theorem place_ready (bs : List WriteBeat) : (t.place i x bs).ready = t.ready := rfl
@[simp] theorem place_pool (bs : List WriteBeat) : (t.place i x bs).pool = put t.pool i bs := rfl
@[simp] theorem place_accounts (bs : List WriteBeat) : (t.place i x bs).accounts = t.accounts := rfl

theorem slot_mapSlots (f : Slot → Slot) : (t.mapSlots f).slot i = f (t.slot i) := by simp [slot, mapSlots]
@[simp] theorem mapSlots_order (f : Slot → Slot) : (t.mapSlots f).order = t.order := rfl
@[simp] theorem mapSlots_ready (f : Slot → Slot) : (t.mapSlots f).ready = t.ready := rfl
@[simp] theorem mapSlots_pool (f : Slot → Slot) : (t.mapSlots f).pool = t.pool := rfl
@[simp] theorem mapSlots_accounts (f : Slot → Slot) : (t.mapSlots f).accounts = t.accounts := rfl
@[simp] theorem mapSlots_resps (f : Slot → Slot) : (t.mapSlots f).resps = t.resps := rfl
@[simp] theorem mapSlots_memChannel (f : Slot → Slot) : (t.mapSlots f).memChannel = t.memChannel := rfl

end Traffic

/-! ### State -/

namespace State

variable (s : State) (c : Ctl) (t : Traffic) (e : Event) (b : Bool) (l : Lease) (o : ObjRef) (n : BitVec 8)

@[simp] theorem control_ctl : (s.control c).ctl = c := rfl
@[simp] theorem control_link : (s.control c).link = s.link := rfl
@[simp] theorem control_pending : (s.control c).pending = s.pending := rfl
@[simp] theorem control_due : (s.control c).due = s.due := rfl
@[simp] theorem control_freeCount : (s.control c).freeCount = s.freeCount := rfl
@[simp] theorem onPath_ctl : (s.onPath t).ctl = s.ctl := rfl
@[simp] theorem onPath_link : (s.onPath t).link = s.link := rfl
@[simp] theorem onPath_pending : (s.onPath t).pending = s.pending := rfl
@[simp] theorem onPath_due : (s.onPath t).due = s.due := rfl
@[simp] theorem onPath_freeCount : (s.onPath t).freeCount = s.freeCount := rfl
@[simp] theorem raiseIf_ctl : (s.raiseIf b e).ctl = s.ctl := rfl
@[simp] theorem raiseIf_link : (s.raiseIf b e).link = s.link := rfl
@[simp] theorem raiseIf_pending : (s.raiseIf b e).pending = s.pending := rfl
@[simp] theorem raiseIf_due : (s.raiseIf b e).due = s.due := rfl
@[simp] theorem raiseIf_freeCount : (s.raiseIf b e).freeCount = s.freeCount := rfl
@[simp] theorem raiseIf_traffic : (s.raiseIf b e).traffic = s.traffic.raiseIf b e := rfl
@[simp] theorem withCtl_ctl : (s.withCtl c).ctl = c := rfl
@[simp] theorem withCtl_traffic : (s.withCtl c).traffic = s.traffic := rfl
@[simp] theorem withCtl_link : (s.withCtl c).link = s.link := rfl
@[simp] theorem withCtl_pending : (s.withCtl c).pending = s.pending := rfl
@[simp] theorem withCtl_due : (s.withCtl c).due = s.due := rfl
@[simp] theorem withLease_ctl : (s.withLease l).ctl = { s.ctl with lease := l } := rfl
@[simp] theorem withLease_traffic : (s.withLease l).traffic = s.traffic := rfl
@[simp] theorem withLease_link : (s.withLease l).link = s.link := rfl
@[simp] theorem withLease_pending : (s.withLease l).pending = s.pending := rfl
@[simp] theorem withLease_due : (s.withLease l).due = s.due := rfl
@[simp] theorem withPointer_ctl : (s.withPointer o n).ctl = s.ctl := rfl
@[simp] theorem withPointer_traffic : (s.withPointer o n).traffic = s.traffic := rfl
@[simp] theorem withPointer_object : (s.withPointer o n).link.object = o := rfl
@[simp] theorem withPointer_field : (s.withPointer o n).link.field = n := rfl
@[simp] theorem withPointer_pending : (s.withPointer o n).pending = s.pending := rfl
@[simp] theorem withPointer_due : (s.withPointer o n).due = s.due := rfl
@[simp] theorem advance_ctl : s.advance.ctl = s.ctl := rfl
@[simp] theorem advance_traffic : s.advance.traffic = s.traffic := rfl
@[simp] theorem advance_object : s.advance.link.object = s.link.object := rfl
@[simp] theorem advance_field : s.advance.link.field = s.link.field + 1 := rfl
@[simp] theorem advance_pending : s.advance.pending = s.pending := rfl
@[simp] theorem advance_due : s.advance.due = s.due := rfl
@[simp] theorem csReleased_ctl : s.csReleased.ctl = s.ctl := rfl
@[simp] theorem csReleased_traffic : s.csReleased.traffic = s.traffic := rfl
@[simp] theorem csReleased_pending : s.csReleased.pending = s.pending := rfl
@[simp] theorem csReleased_due : s.csReleased.due = s.due := rfl

end State

@[simp] theorem Reply.ended_ctl (r : Reply) : r.ended.ctl = r.state.ctl := rfl
@[simp] theorem Reply.ended_traffic (r : Reply) : r.ended.traffic = r.state.traffic := rfl
@[simp] theorem Reply.ended_link (r : Reply) : r.ended.link = r.state.link.ended r.status r.value := rfl
@[simp] theorem Reply.ended_pending (r : Reply) : r.ended.pending = r.state.pending := rfl
@[simp] theorem Reply.ended_due (r : Reply) : r.ended.due = r.state.due := rfl
@[simp] theorem Reply.ended_freeCount (r : Reply) : r.ended.freeCount = r.state.freeCount := rfl

/-- A frame is taken unless the link waits for the release of CS_N (R157, R176). -/
theorem State.frame_taken {s : State} (f : State → Reply) (h : s.link.awaitRelease = false) :
    s.frame f = .next (f s).ended := by simp [State.frame, h]

/-- While the link waits, the release takes no frame (R176). -/
theorem State.frame_waiting {s : State} (f : State → Reply) (h : s.link.awaitRelease = true) :
    s.frame f = .next s.csReleased := by simp [State.frame, h]

/-! ### Expiries that wait -/

/-- A restart of the control timer only takes expiries away. -/
theorem withoutControl_sublist (d : List Instr) : (withoutControl d).Sublist d := List.filter_sublist

/-- A restart of the refill timer only takes expiries away. -/
theorem withoutRefill_sublist (d : List Instr) : (withoutRefill d).Sublist d := by
  unfold withoutRefill; split
  · exact List.filter_sublist
  · exact List.Sublist.refl d

/-- A restart of both timers only takes expiries away. -/
theorem withoutTicks_sublist (d : List Instr) : (withoutTicks d).Sublist d :=
  (withoutControl_sublist _).trans (withoutRefill_sublist d)

@[simp] theorem withoutTicks_nil : withoutTicks [] = [] := rfl

@[simp] theorem withoutControl_nil : withoutControl [] = [] := rfl

@[simp] theorem withoutRefill_nil : withoutRefill [] = [] := rfl

end Sys2Proof.Machine
end

