-- ==== Sys2Proof/Laws/Control.lean ====
section
/-! SUPPORT. The shared operations of the control side: clamps, the entry into a source, the change of zone records, the
search for a due channel. -/

namespace Sys2Proof.Machine

/-- A clamp is a maximum of a minimum. -/
theorem clamp_eq {lo hi x : Int} (h : lo ≤ hi) : clamp lo hi x = max lo (min hi x) := by
  simp only [clamp]
  split
  · omega
  · split <;> omega

theorem le_clamp {lo hi x : Int} (h : lo ≤ hi) : lo ≤ clamp lo hi x := by rw [clamp_eq h]; omega

theorem clamp_le {lo hi x : Int} (h : lo ≤ hi) : clamp lo hi x ≤ hi := by rw [clamp_eq h]; omega

/-- A value in range is left as it is. -/
theorem clamp_of_within {lo hi x : Int} (h1 : lo ≤ x) (h2 : x ≤ hi) : clamp lo hi x = x := by
  rw [clamp_eq (by omega)]; omega

namespace Control

/-- After its entry the effective source is the one that causes and mode call for (R117). -/
theorem resource_source (k : Control) : k.resource.source = k.wanted := by
  simp only [resource]
  split
  · rename_i h; exact h.symm
  · cases k.wanted <;> rfl

/-- The entry into a source changes source, rate, U and primed alone. -/
theorem enter_eq (k : Control) (w : Source) :
    k.enter w = { k with
      source := w, rate := (k.enter w).rate, u := (k.enter w).u, primed := (k.enter w).primed } := by cases w <;> rfl

/-- `resource` changes source, rate, U and primed alone. -/
theorem resource_eq (k : Control) :
    k.resource = { k with
      source := k.resource.source, rate := k.resource.rate, u := k.resource.u, primed := k.resource.primed } := by
  simp only [resource]
  split
  · rfl
  · rw [enter_eq]

/-- A source that is already the wanted one has no entry action (R117). -/
theorem resource_of_wanted {k : Control} (h : k.wanted = k.source) : k.resource = k := by simp [resource, h]

end Control

namespace Ctl

variable (c : Ctl) (f : ZoneRec → ZoneRec) (z y : ZoneIx)

@[simp] theorem zones_mapZones : (c.mapZones f).zones[z] = f c.zones[z] := by simp [mapZones]

theorem zones_adjustZone : (c.adjustZone z f).zones[y] = if z = y then f c.zones[y] else c.zones[y] := by
  simp [adjustZone, Fin.val_inj]

/-- `adjustZone` changes the zone records alone. -/
theorem adjustZone_eq : c.adjustZone z f = { c with zones := (c.adjustZone z f).zones } := rfl

/-- The scanner's search finds the lowest due channel at or above `low` (R106). -/
theorem nextDue_eq_some {low : Nat} {ch : ChanIx} (h : c.nextDue low = some ch) :
    low ≤ ch.val ∧ c.due ch = true ∧ ∀ n : ChanIx, low ≤ n.val → n < ch → c.due n = false := by
  rw [nextDue, List.find?_eq_some_iff_getElem] at h
  obtain ⟨hp, i, hi, he, hlt⟩ := h
  have hin : ch.val = i := by rw [← he]; simp
  simp only [Bool.and_eq_true, decide_eq_true_eq] at hp
  refine ⟨hp.1, hp.2, ?_⟩
  intro n hl hn
  have := hlt n.val (by rw [← hin]; exact hn)
  simpa [hl] using this

/-- The scanner's search finds nothing exactly where no channel at or above `low` is due. -/
theorem nextDue_eq_none {low : Nat} : c.nextDue low = none ↔ ∀ n : ChanIx, low ≤ n.val → c.due n = false := by
  simp [nextDue, List.find?_eq_none]

end Ctl

end Sys2Proof.Machine
end

