-- ==== Sys2Proof/Laws/Settle.lean ====
section
/-! SUPPORT. The end of an event: what `settle` does part by part, and where it finds nothing to do. Cite these instead of
unfolding `settle`, `offerMemory`, `offerResponse` and `choice`. -/

namespace Sys2Proof.Machine

namespace Traffic

/-! ### The ready queue -/

/-- Where every READY slot is in the ready queue, nothing joins it. -/
theorem flushReady_of_queued {t : Traffic} (h : ∀ i ∈ t.order, (t.slot i).state.isReady = true → i ∈ t.ready) :
    t.flushReady = t := by
  have : (t.order.filter fun i => (t.slot i).state.isReady && !t.ready.contains i) = [] := by
    rw [List.filter_eq_nil_iff]
    intro i hi
    have := h i hi
    grind
  simp only [flushReady, this, List.append_nil]

/-- `flushReady` changes the ready queue alone. -/
theorem flushReady_eq (t : Traffic) : t.flushReady = { t with ready := t.flushReady.ready } := rfl

/-- Membership of the ready queue after `flushReady`. -/
theorem mem_flushReady {t : Traffic} {i : SlotIx} :
    i ∈ t.flushReady.ready ↔ i ∈ t.ready ∨ (i ∈ t.order ∧ (t.slot i).state.isReady = true) := by
  simp only [flushReady, List.mem_append, List.mem_filter]
  grind

/-- `flushReady` keeps the ready queue free of duplicates. -/
theorem nodup_flushReady {t : Traffic} (ho : t.order.Nodup) (hr : t.ready.Nodup) : t.flushReady.ready.Nodup := by
  simp only [flushReady]
  refine List.nodup_append.2 ⟨hr, ho.filter _, ?_⟩
  intro a ha b hb hab
  subst hab
  simp [ha] at hb

/-! ### The memory port -/

/-- `offerMemory` changes the memory offer alone. -/
theorem offerMemory_eq (c : Ctl) (t : Traffic) :
    t.offerMemory c = { t with memOffer := (t.offerMemory c).memOffer } := by
  simp only [offerMemory]
  repeat' split
  all_goals rfl

/-- The memory offer after the memory port has acted (R37, R38). -/
theorem offerMemory_memOffer (c : Ctl) (t : Traffic) :
    (t.offerMemory c).memOffer =
      match t.memOffer with
      | some i => some i
      | none => if c.railActive || c.resetAsserted then none else t.ready.head? := by
  simp only [offerMemory]
  split
  · rename_i h1 h2
    simp only [h1, h2]
    split <;> simp_all
  · rename_i h1 h2
    simp [h1, h2]
  · rename_i h1
    simp [h1]

/-- A memory port with an offer out, an empty queue, a rail hold or a link reset offers nothing new. -/
theorem offerMemory_of_quiet {c : Ctl} {t : Traffic}
    (h : t.memOffer = none → t.ready = [] ∨ c.railActive = true ∨ c.resetAsserted = true) : t.offerMemory c = t := by
  have hx : (t.offerMemory c).memOffer = t.memOffer := by
    rw [offerMemory_memOffer]
    cases hm : t.memOffer with
    | some i => rfl
    | none =>
      have := h hm
      dsimp only
      split
      · rfl
      · simp_all
  rw [offerMemory_eq, hx]

/-! ### The answer unit -/

/-- `offerResponse` changes the current offer of its port alone. -/
theorem offerResponse_eq (c : Ctl) (p : Port) (t : Traffic) :
    t.offerResponse c p = { t with resps := t.resps.set p ((t.offerResponse c p).resps.get p) } := by
  simp only [offerResponse]
  split
  · simp
  · split <;> simp

/-- The current offer of a port after its arbiter has acted (R92, R93). -/
theorem offerResponse_resps (c : Ctl) (p : Port) (t : Traffic) :
    (t.offerResponse c p).resps.get p =
      match t.resps.get p with
      | some o => some o
      | none => if c.resetAsserted then none else t.choice p := by
  simp only [offerResponse]
  cases h : t.resps.get p with
  | some o => exact h
  | none => dsimp only; split <;> simp_all

/-- An arbiter with an offer out, nothing deliverable or a link reset offers nothing new. -/
theorem offerResponse_of_quiet {c : Ctl} {p : Port} {t : Traffic}
    (h : t.resps.get p = none → t.choice p = none ∨ c.resetAsserted = true) : t.offerResponse c p = t := by
  have hx : (t.offerResponse c p).resps.get p = t.resps.get p := by
    rw [offerResponse_resps]
    cases hr : t.resps.get p with
    | some o => rfl
    | none =>
      have := h hr
      dsimp only
      split <;> simp_all
  rw [offerResponse_eq, hx]
  simp

/-- The choice of an arbiter looks at the acceptance order, the matched response, and of each slot its port, id,
direction and length, and its answer. Two paths that agree on these give the same choice. -/
theorem choice_congr {t u : Traffic} (p : Port) (ho : u.order = t.order) (hc : u.memChannel = t.memChannel)
    (hs : ∀ i, (u.slot i).port = (t.slot i).port ∧ (u.slot i).id = (t.slot i).id ∧ (u.slot i).dir = (t.slot i).dir ∧
      (u.slot i).length = (t.slot i).length ∧
      ∀ a, (u.slot i).state = .answering a ↔ (t.slot i).state = .answering a) :
    u.choice p = t.choice p := by
  have hk : ∀ i, (u.slot i).key = (t.slot i).key := fun i => by simp [Slot.key, hs i]
  have hh : ∀ i, u.isHead i = t.isHead i := fun i => by simp [isHead, chain, hk, ho]
  have ha : ∀ i, (u.slot i).state.isAnswering = (t.slot i).state.isAnswering := by
    intro i
    have := (hs i).2.2.2.2
    cases h : (t.slot i).state <;> cases h' : (u.slot i).state <;>
      simp_all [SlotState.isAnswering]
  have hm : u.memoryChoice p = t.memoryChoice p := by
    simp only [memoryChoice, hc]
    split
    · simp only [hh, (hs _).1, Slot.memoryAnswer, (hs _).2.1, (hs _).2.2.1, (hs _).2.2.2.1]
    · rfl
  have hw : u.answerHead p = t.answerHead p := by simp only [answerHead, ho, ha, hh, (hs _).1]
  have hb : u.answerChoice p = t.answerChoice p := by
    simp only [answerChoice, hw]
    split
    · rename_i i _
      cases h : (t.slot i).state with
      | answering a =>
        rw [((hs i).2.2.2.2 a).2 h]
        simp only [Slot.syntheticAnswer, (hs _).2.1, (hs _).2.2.1, (hs _).2.2.2.1]
      | _ =>
        cases h' : (u.slot i).state with
        | answering a => have := ((hs i).2.2.2.2 a).1 h'; simp_all
        | _ => rfl
    · rfl
  simp only [choice, hm, hb]

/-- The choice does not look at the ready queue, the offers or the accounts. -/
theorem choice_of_table {t u : Traffic} (p : Port) (hs : u.slots = t.slots) (ho : u.order = t.order)
    (hc : u.memChannel = t.memChannel) : u.choice p = t.choice p :=
  choice_congr p ho hc fun i => by simp [slot, hs]

/-! ### The whole -/

/-- Where no beats came free, every READY slot is queued and the ports have nothing to offer, the event's end does
nothing. -/
theorem settle_of_quiet {c : Ctl} {t before : Traffic}
    (hq : ∀ i ∈ t.order, (t.slot i).state.isReady = true → i ∈ t.ready)
    (hp : before.poolInUse ≤ t.poolInUse)
    (hm : t.memOffer = none → t.ready = [] ∨ c.railActive = true ∨ c.resetAsserted = true)
    (hr : ∀ p, t.resps.get p = none → t.choice p = none ∨ c.resetAsserted = true) : t.settle c before = t := by
  simp only [settle, flushReady_of_queued hq]
  rw [if_neg (by omega), offerMemory_of_quiet hm, offerResponses, offerResponse_of_quiet (hr .a),
    offerResponse_of_quiet (hr .b)]

/-- The end of an event in its parts: the queue, the examination where beats came free, the offers. -/
theorem settle_eq (c : Ctl) (t before : Traffic) :
    t.settle c before =
      ((if t.poolInUse < before.poolInUse then t.flushReady.examineBoth c else t.flushReady).offerMemory
        c).offerResponses c := rfl

/-- `offerResponses` changes the current offers alone, each as its arbiter chooses. -/
theorem offerResponses_eq (c : Ctl) (t : Traffic) :
    t.offerResponses c = { t with
      resps := { a := (t.offerResponse c .a).resps.get .a, b := (t.offerResponse c .b).resps.get .b } } := by
  have hb : ((t.offerResponse c .a).offerResponse c .b).resps.get .b = (t.offerResponse c .b).resps.get .b := by
    rw [offerResponse_resps, offerResponse_resps]
    have h1 : (t.offerResponse c .a).resps.get .b = t.resps.get .b := by
      rw [offerResponse_eq]; exact Both.get_set_other t.resps .a _
    have h2 : (t.offerResponse c .a).choice .b = t.choice .b := by
      rw [offerResponse_eq]; exact choice_of_table .b rfl rfl rfl
    rw [h1, h2]
  rw [offerResponses, offerResponse_eq c .b, hb, offerResponse_eq c .a]
  simp [Both.set, Both.get]

end Traffic

/-- In a settled path an event that leaves slots, order, queue, offers and pool alone ends with them as they are. -/
theorem Traffic.settle_of_untouched {c : Ctl} {t before : Traffic}
    (hr : Safety.readyOk before) (hm : Safety.offersMemory c before) (ha : Safety.offersResponse c before .a)
    (hb : Safety.offersResponse c before .b) (hs : t.slots = before.slots) (ho : t.order = before.order)
    (hq : t.ready = before.ready) (hf : t.memOffer = before.memOffer) (hc : t.memChannel = before.memChannel)
    (hp : t.pool = before.pool) (hx : t.resps = before.resps) : t.settle c before = t := by
  refine Traffic.settle_of_quiet ?_ ?_ ?_ ?_
  · intro i _ h
    rw [hq]
    exact (hr.2 i).2 (by simpa [Traffic.slot, hs] using h)
  · simp [Traffic.poolInUse, hp]
  · intro h
    rw [hf] at h
    rw [hq]
    simp only [Safety.offersMemory, h] at hm
    cases hl : before.ready <;> simp_all
    cases h1 : c.railActive <;> simp_all
  · intro p h
    rw [hx] at h
    rw [Traffic.choice_of_table p hs ho hc]
    cases p
    · exact ha h
    · exact hb h

end Sys2Proof.Machine
end

