-- ==== Sys2Proof/Laws/Path.lean ====
section
/-! SUPPORT. The shared operations of the transaction path: which components each may change, and what it leaves of a
slot. Cite these instead of unfolding `sweepFrom`, `payRun`, `answer`, `pump`, `create` and the examinations. -/

namespace Sys2Proof.Machine.Traffic

variable (t : Traffic) (c : Ctl) (i j : SlotIx) (z : ZoneIx) (zone : ZoneRef)

/-! ### Accounts -/

/-- `noteAge` changes accounts alone. -/
theorem noteAge_eq (age : Nat) : t.noteAge zone age = { t with accounts := (t.noteAge zone age).accounts } := by
  cases zone <;> rfl

/-- `count` changes accounts alone. -/
theorem count_eq (f : ZoneCounters → ZoneCounters) :
    t.count zone f = { t with accounts := (t.count zone f).accounts } := by cases zone <;> rfl

/-- The account of a zone after `count`. -/
theorem account_count (f : ZoneCounters → ZoneCounters) :
    (t.count zone f).account z = { t.account z with
      counters := if zone = some z then f (t.account z).counters else (t.account z).counters } := by
  cases zone with
  | none => rfl
  | some y =>
    by_cases h : y = z
    · subst h; simp [count]
    · simp [count, account_setAccount, h]

/-- The account of a zone after `noteAge`. -/
theorem account_noteAge (age : Nat) :
    (t.noteAge zone age).account z = { t.account z with
      longestHold := if zone = some z then max (t.account z).longestHold age else (t.account z).longestHold } := by
  cases zone with
  | none => rfl
  | some y =>
    by_cases h : y = z
    · subst h; simp [noteAge]
    · simp [noteAge, account_setAccount, h]

/-- `refund` changes accounts alone. -/
theorem refund_eq (n : Nat) : t.refund c zone n = { t with accounts := (t.refund c zone n).accounts } := by
  cases zone <;> rfl

/-- The account of a zone after `refund`. -/
theorem account_refund (n : Nat) :
    (t.refund c zone n).account z = { t.account z with
      credit := if zone = some z then min (t.credit z + n) c.zones[z].ceiling else t.credit z } := by
  cases zone with
  | none => rfl
  | some y =>
    by_cases h : y = z
    · subst h; simp [refund, setCredit]
    · simp [refund, setCredit, account_setAccount, h, credit]

/-- `charge` changes accounts alone. -/
theorem charge_eq (n : Nat) : t.charge zone n = { t with accounts := (t.charge zone n).accounts } := by
  cases zone <;> rfl

/-! ### Releases -/

/-- `release` changes the slot, which becomes READY, and accounts. -/
theorem release_eq (age : Nat) :
    t.release i age = { t with slots := put t.slots i { t.slot i with state := .ready }
                               accounts := (t.noteAge (t.slot i).zone age).accounts } := by
  simp only [release, setSlot]
  rw [noteAge_eq]

/-- `sweepFrom` changes slots and accounts alone. -/
theorem sweepFrom_eq (is : List SlotIx) (ks : List Key) :
    sweepFrom is ks t =
      { t with slots := (sweepFrom is ks t).slots, accounts := (sweepFrom is ks t).accounts } := by
  induction is generalizing ks t with
  | nil => rfl
  | cons k is ih =>
    simp only [sweepFrom]
    split
    · split
      · rw [ih, release_eq]
      · rw [ih]; rfl
    all_goals exact ih ..

/-- `sweepFrom` leaves a slot that is not HELD as it is. -/
theorem sweepFrom_slot_of_not_held (is : List SlotIx) (ks : List Key) (h : (t.slot i).state.isHeld = false) :
    (sweepFrom is ks t).slot i = t.slot i := by
  induction is generalizing ks t with
  | nil => rfl
  | cons k is ih =>
    simp only [sweepFrom]
    split
    · rename_i hk
      have hne : k ≠ i := by rintro rfl; simp [hk, SlotState.isHeld] at h
      have hr : ∀ age, (t.release k age).slot i = t.slot i := fun age => by
        rw [release_eq]; simp [slot, Fin.val_inj, hne]
      split
      · rw [ih _ _ (by rw [hr]; exact h), hr]
      · rw [ih _ _ (by rw [slot_setSlot_ne _ _ _ _ hne]; exact h), slot_setSlot_ne _ _ _ _ hne]
    all_goals exact ih _ _ h

/-- `sweepFrom` changes no more of a slot than its state. -/
theorem sweepFrom_slot (is : List SlotIx) (ks : List Key) :
    (sweepFrom is ks t).slot i = { t.slot i with state := ((sweepFrom is ks t).slot i).state } := by
  induction is generalizing ks t with
  | nil => rfl
  | cons k is ih =>
    simp only [sweepFrom]
    split
    · split
      · rw [ih, release_eq]
        by_cases h : k = i
        · subst h; simp [slot]
        · simp [slot, Fin.val_inj, h]
      · rw [ih]
        by_cases h : k = i
        · subst h; simp
        · simp [slot_setSlot_ne _ _ _ _ h]
    all_goals exact ih ..

/-- `sweep` changes slots and accounts alone. -/
theorem sweep_eq : t.sweep = { t with slots := t.sweep.slots, accounts := t.sweep.accounts } := sweepFrom_eq ..

/-! ### Payments -/

/-- `payRun` changes slots and accounts alone. -/
theorem payRun_eq (is : List SlotIx) :
    payRun z is t = { t with slots := (payRun z is t).slots, accounts := (payRun z is t).accounts } := by
  induction is generalizing t with
  | nil => rfl
  | cons k is ih =>
    simp only [payRun]
    split
    · split
      · split
        · rw [ih]; rfl
        · rfl
      · exact ih ..
    all_goals exact ih ..

/-- `payRun` changes no more of a slot than its state and its payment. -/
theorem payRun_slot (is : List SlotIx) :
    (payRun z is t).slot i = { t.slot i with
      state := ((payRun z is t).slot i).state, paid := ((payRun z is t).slot i).paid } := by
  induction is generalizing t with
  | nil => rfl
  | cons k is ih =>
    simp only [payRun]
    split
    · split
      · split
        · rw [ih]
          by_cases h : k = i
          · subst h; simp [pay]
          · simp [pay, slot_setSlot_ne _ _ _ _ h]
        · rfl
      · exact ih ..
    all_goals exact ih ..

/-- `payRun` leaves a slot that is not HELD as it is. -/
theorem payRun_slot_of_not_held (is : List SlotIx) (h : (t.slot i).state.isHeld = false) :
    (payRun z is t).slot i = t.slot i := by
  induction is generalizing t with
  | nil => rfl
  | cons k is ih =>
    simp only [payRun]
    split
    · rename_i r age hk
      split
      · split
        · have hne : k ≠ i := by rintro rfl; simp [hk, SlotState.isHeld] at h
          have hp : (t.pay k z r age).slot i = t.slot i := by simp [pay, slot_setSlot_ne _ _ _ _ hne]
          rw [ih _ (by rw [hp]; exact h), hp]
        · rfl
      · exact ih _ h
    all_goals exact ih _ h

/-- The attempts in a list of zones, before the releases, change slots and accounts alone. -/
theorem payFold_eq (zs : List ZoneIx) :
    zs.foldl (fun t z => t.payAttempt z) t =
      { t with
        slots := (zs.foldl (fun t z => t.payAttempt z) t).slots
        accounts := (zs.foldl (fun t z => t.payAttempt z) t).accounts } := by
  induction zs generalizing t with
  | nil => rfl
  | cons z zs ih =>
    rw [List.foldl_cons, ih, payAttempt, payRun_eq]

/-- `payAttempts` changes slots and accounts alone. -/
theorem payAttempts_eq (zs : List ZoneIx) :
    t.payAttempts zs = { t with slots := (t.payAttempts zs).slots, accounts := (t.payAttempts zs).accounts } := by
  rw [payAttempts, sweep_eq, payFold_eq]

/-! ### Answers -/

/-- A slot that is no longer HELD is left as it stands (R16). -/
theorem answer_of_not_held (a : AnswerStatus) (h : (t.slot i).state.isHeld = false) : t.answer c a i = t := by
  simp only [answer]
  split
  · rename_i hs; simp [hs, SlotState.isHeld] at h
  all_goals rfl

/-- `refundIfPaid` changes accounts alone. -/
theorem refundIfPaid_eq : t.refundIfPaid c i = { t with accounts := (t.refundIfPaid c i).accounts } := by
  simp only [refundIfPaid]
  split
  · rw [refund_eq]
  · rfl

/-- `noteAnswer` changes accounts and flags alone. -/
theorem noteAnswer_eq (a : AnswerStatus) :
    t.noteAnswer a zone =
      { t with accounts := (t.noteAnswer a zone).accounts, flags := (t.noteAnswer a zone).flags } := by
  cases a <;> cases zone <;> rfl

/-- `answer` changes slots, accounts, the pool and the flags alone; of the slots and the pool, its own place. -/
theorem answer_eq (a : AnswerStatus) :
    t.answer c a i = { t with
      slots := if (t.slot i).state.isHeld then put t.slots i { t.slot i with state := .answering a, paid := false }
        else t.slots
      pool := if (t.slot i).state.isHeld then put t.pool i [] else t.pool
      accounts := (t.answer c a i).accounts
      flags := (t.answer c a i).flags } := by
  simp only [answer]
  split
  · rename_i hs
    simp only [hs, SlotState.isHeld, if_true]
    rw [noteAnswer_eq, refundIfPaid_eq, noteAge_eq]
    rfl
  all_goals (rename_i hs; simp [hs, SlotState.isHeld])

/-- `answer` changes no slot but its own. -/
theorem answer_slot_ne (a : AnswerStatus) (h : i ≠ j) : (t.answer c a i).slot j = t.slot j := by
  rw [answer_eq]
  cases hs : (t.slot i).state.isHeld with
  | false => rfl
  | true => exact get_put_ne _ _ h

/-- `answer` keeps the acceptance order. -/
@[simp] theorem answer_order (a : AnswerStatus) : (t.answer c a i).order = t.order := by rw [answer_eq]

/-! ### The memory port -/

/-- `pump` changes slots, the channel, the responses behind it, the flags and the orphan counter alone. -/
theorem pump_eq (ms : List MemResponse) :
    pump ms t = { t with
      slots := (pump ms t).slots
      memChannel := (pump ms t).memChannel
      memBacklog := (pump ms t).memBacklog
      flags := (pump ms t).flags
      orphans := (pump ms t).orphans } := by
  induction ms generalizing t with
  | nil => rfl
  | cons m ms ih =>
    simp only [pump]
    split
    · rfl
    · rw [ih]; rfl

/-- `pump` with no response that finds a slot takes them all as orphans. -/
theorem pump_of_no_match {ms : List MemResponse}
    (h : ∀ m ∈ ms, t.oldestForwarded (keyOfDid m.did) = none) : (pump ms t).slots = t.slots := by
  induction ms generalizing t with
  | nil => rfl
  | cons m ms ih =>
    simp only [pump, h m (by simp)]
    rw [ih]
    · rfl
    · intro m' hm'
      exact h m' (by simp [hm'])

/-! ### Intake -/

/-- `place` puts the record in its slot, the slot at the young end and its beats in the pool, and nothing else. -/
theorem place_eq (x : Slot) (bs : List WriteBeat) :
    t.place i x bs = { t with slots := put t.slots i x, order := t.order ++ [i], pool := put t.pool i bs } := rfl

/-- `create` changes slots, order, queue, pool, accounts and flags alone. -/
theorem create_eq (p : Port) (r : Request) :
    t.create c p r i = { t with
      slots := (t.create c p r i).slots
      order := t.order ++ [i]
      ready := (t.create c p r i).ready
      pool := (t.create c p r i).pool
      accounts := (t.create c p r i).accounts
      flags := (t.create c p r i).flags } := by
  simp only [create]
  split
  · rename_i a _
    cases a <;> simp only [noteAnswer] <;>
      (cases (c.lookup (pageOf r.beatAddr)).zone <;> rfl)
  · simp only [createLive]
    cases (c.lookup (pageOf r.beatAddr)).zone <;> (repeat' split) <;> rfl

/-- `create` changes no slot but the new one. -/
theorem create_slot_ne (p : Port) (r : Request) (h : i ≠ j) : (t.create c p r i).slot j = t.slot j := by
  simp only [create]
  split
  · rename_i a _
    cases a <;> simp only [noteAnswer] <;>
      (cases (c.lookup (pageOf r.beatAddr)).zone <;>
        simp [slot, place, setSlot, raise, count, setAccount, Fin.val_inj, h])
  · simp only [createLive]
    cases (c.lookup (pageOf r.beatAddr)).zone <;> (repeat' split) <;>
      simp [slot, place, setSlot, count, setAccount, charge, setCredit, Fin.val_inj, h]

/-- A failed examination changes the offers, the stall counter and the flags alone (R31). -/
theorem failExam_eq (p : Port) :
    t.failExam p = { t with
      offers := (t.failExam p).offers, intakeStalls := (t.failExam p).intakeStalls, flags := (t.failExam p).flags } := by
  simp only [failExam]
  split
  · cases t.firstFree.isNone <;> rfl
  · rfl

/-- The first FREE slot is FREE. -/
theorem firstFree_free {t : Traffic} {i : SlotIx} (h : t.firstFree = some i) : (t.slot i).state.isFree = true := by
  have := List.find?_some h
  simpa using this

/-- Every slot below the first FREE one is taken. -/
theorem firstFree_lowest {t : Traffic} {i : SlotIx} (h : t.firstFree = some i) (hj : j < i) :
    (t.slot j).state.isFree = false := by
  rw [firstFree, List.find?_eq_some_iff_getElem] at h
  obtain ⟨_, n, hn, hi, hlt⟩ := h
  have hin : i.val = n := by rw [← hi]; simp
  have := hlt j.val (by rw [← hin]; exact hj)
  simpa using this

end Sys2Proof.Machine.Traffic
end

