-- ==== Sys2Proof/Laws/Wire.lean ====
section
/-! SUPPORT. How a frame's bits become commands at the front of the queue: the word captured from SDI, bit by bit, and what
`withFetchWord` and `withFrame` put there (R156, R159). -/

namespace Sys2Proof.Laws

open Sys2Proof.Machine

/-- Bits shifted in after `w`: the last comes lowest, and `w` moves up by their number. -/
theorem foldl_shiftConcat_getLsbD (l : List Bool) (w : BitVec 32) (k : Nat) (hk : k < 32) :
    (l.foldl BitVec.shiftConcat w).getLsbD k =
      if k < l.length then (l[l.length - 1 - k]?).getD false else w.getLsbD (k - l.length) := by
  induction l generalizing w with
  | nil => simp
  | cons b l ih =>
    rw [List.foldl_cons, ih]
    by_cases h : k < l.length
    · rw [if_pos h, List.length_cons, if_pos (by omega), show l.length + 1 - 1 - k = (l.length - 1 - k) + 1 by omega,
        List.getElem?_cons_succ]
    · rw [if_neg h, List.length_cons, BitVec.getLsbD_shiftConcat]
      by_cases h2 : k = l.length
      · subst h2
        simp
      · simp [show k - l.length ≠ 0 by omega, show ¬ k < l.length + 1 by omega, show k - l.length < 32 by omega,
          show k - l.length - 1 = k - (l.length + 1) by omega]

/-- The captured word of 32 bits of SDI has the first of them on top (R156). -/
theorem captured_getLsbD {sdi : List Bool} (h : sdi.length = 32) {n : Nat} {b : Bool} (hb : sdi[n]? = some b) :
    (captured sdi).getLsbD (31 - n) = b := by
  obtain ⟨hn, -⟩ := List.getElem?_eq_some_iff.mp hb
  rw [captured, foldl_shiftConcat_getLsbD _ _ _ (by omega), if_pos (by omega),
    show sdi.length - 1 - (31 - n) = n by omega, hb, Option.getD_some]

/-- 32 edges bring the frame's own command (R156). -/
theorem commandOfEdges_frame {sdi : List Bool} (h : sdi.length = 32) :
    commandOfEdges sdi = commandOfFrame (captured sdi) := if_pos h

/-- Any other number of edges brings a frame error (R159). -/
theorem commandOfEdges_error {sdi : List Bool} (h : sdi.length ≠ 32) :
    commandOfEdges sdi = .frameError sdi.length := if_neg h

@[simp] theorem withFetchWord_frame (s : State) (w : BitVec 32) :
    s.withFetchWord 32 w.toNat = { s with pending := commandOfFrame w :: s.pending } := by
  simp [State.withFetchWord, decodeTableWord]

theorem withFetchWord_other (s : State) {nbits : Nat} (w : Nat) (h : nbits ≠ 32) : s.withFetchWord nbits w = s := by
  simp [State.withFetchWord, decodeTableWord, h]

@[simp] theorem withFrame_pending (s : State) (sdi : List Bool) :
    (s.withFrame sdi).pending = .csNAssert :: commandOfEdges sdi :: s.pending := rfl

end Sys2Proof.Laws
end

