-- ==== Sys2Proof/Tests/Slice0.lean ====
section
/-! SUPPORT. The model's own tests: ill-formed terms that the check refuses, the wire layout of a frame, one step of the
commands on small states, and for each statement of Certificates/ a state and operands that meet its hypotheses. -/

namespace Sys2Proof.Tests

open Sys2Proof.Machine Sys2Proof.Safety Sys2Proof.Claims

set_option maxRecDepth 4000
set_option Elab.async false

/-! ### Helpers -/

/-- The outcome is a next state of which `p` holds. -/
def nextHas (o : Host.Outcome State Fault Refusal) (p : State → Bool) : Bool :=
  match o with
  | .next t => p t
  | .fault _ => false
  | .refused _ => false

/-- The outcome is the refusal of an ill-formed term. -/
def refusedIll (o : Host.Outcome State Fault Refusal) : Bool :=
  match o with
  | .refused .illFormed => true
  | .refused (.notModelled _) | .next _ | .fault _ => false

/-- A READ of `n` beats at `page`. -/
def readReq (id : Fin 16) (page n : Nat) : Request :=
  { id := id, dir := .read, beatAddr := BitVec.ofNat 36 (page * 256), length := n, data := [] }

/-- A WRITE of `n` beats at `page`. -/
def writeReq (id : Fin 16) (page n : Nat) : Request :=
  { id := id, dir := .write, beatAddr := BitVec.ofNat 36 (page * 256), length := n
    data := List.replicate n { data := 5, enables := 0xFFFF } }

def noReasons : Reasons := { budget := false, order := false, freeze := false, rail := false, surge := false }

def budget : Reasons := { noReasons with budget := true }

/-- A slot template: a paid READ of one beat in zone 0 from port A. -/
def base : Slot := { Slot.powerOn with paid := true }

def heldFor (r : Reasons) (age : Nat) : Slot := { base with state := .held r age, paid := !r.budget, cost := 1 }

def readySlot : Slot := { base with state := .ready }

def forwardedSlot : Slot := { base with state := .forwarded false }

def answeringSlot : Slot := { base with state := .answering .expired, paid := false }

/-- A path whose table holds these slots, oldest first; writes that wait have their beats. -/
def table (l : List (SlotIx × Slot)) : Traffic :=
  l.foldl (fun t p => { t.setSlot p.1 p.2 with
    order := t.order ++ [p.1]
    ready := if p.2.state.isReady then t.ready ++ [p.1] else t.ready
    pool := put t.pool p.1 (if p.2.dir = .write ∧ (p.2.state.isHeld || p.2.state.isReady) = true then
      List.replicate p.2.length { data := 0, enables := 0 } else []) }) Traffic.powerOn

/-- A machine with this control side and this path, whose ports offer what they may. -/
def machine (c : Ctl) (t : Traffic) : State :=
  { State.reset with ctl := c, traffic := (t.offerMemory c).offerResponses c }

def ctl0 : Ctl := Ctl.powerOn

def frozen0 : Ctl := { ctl0 with governor := .frozen }

def onZone (z : ZoneIx) (f : ZoneRec → ZoneRec) (c : Ctl) : Ctl := c.adjustZone z f

def onControl (z : ZoneIx) (f : Control → Control) (c : Ctl) : Ctl := c.adjustControl z f

def onMonitor (z : ZoneIx) (f : Monitor → Monitor) (c : Ctl) : Ctl := c.adjustMonitor z f

/-- A window over one page. -/
def window (w : WinIx) (page : Nat) (zone : ZoneRef) (a : Attribute) (c : Ctl) : Ctl :=
  let page := BitVec.ofNat 28 page
  { c with windows := put c.windows w { enabled := true, basePage := page, limitPage := page, zone := zone, attr := a } }

/-- Zone `z` is fenced by its own trip. -/
def fence (z : ZoneIx) (c : Ctl) : Ctl := onMonitor z (fun m => { m with mode := .latched, tripped := true }) c

/-- `s` with its pointer at field `n` of `o`. -/
def pointed (o : ObjRef) (n : BitVec 8) (s : State) : State := { s with link := { s.link with object := o, field := n } }

/-- `s` with requests standing at its ports. -/
def standing (x y : Option Request) (s : State) : State :=
  { s with traffic := { s.traffic with
      offers := { a := x.map fun r => { req := r, counted := false }, b := y.map fun r => { req := r, counted := false } } } }

/-- A table with `n` slots FORWARDED to zone 0, half of them of each port. -/
def crowded (n : Nat) : Traffic :=
  { Traffic.powerOn with
    slots := Vector.ofFn fun i : SlotIx =>
      if i.val < n then { forwardedSlot with port := if i.val % 2 = 0 then .a else .b } else Slot.powerOn
    order := (List.finRange 64).filter fun i => decide (i.val < n) }

/-- Quotas that never bind. -/
def wide : Ctl := { ctl0 with quotas := { a := 64, b := 64 } }

/-! ### Ill-formed terms (log entry 20) -/

theorem test_ill_length_zero : refusedIll (exec (.requestOffer .a (readReq 0 0 0)) State.reset) = true := by
  decide +kernel

theorem test_ill_length_seventeen : refusedIll (exec (.requestOffer .b (readReq 0 0 17)) State.reset) = true := by
  decide +kernel

theorem test_ill_write_without_data :
    refusedIll (exec (.requestOffer .a { writeReq 0 0 4 with data := [] }) State.reset) = true := by decide +kernel

theorem test_ill_read_with_data :
    refusedIll (exec (.requestOffer .a { readReq 0 0 1 with data := (writeReq 0 0 1).data }) State.reset) = true := by
  decide +kernel

theorem test_ill_frame_of_32_edges : refusedIll (exec (.frameError 32) State.reset) = true := by decide +kernel

theorem test_ill_unknown_of_known_code : refusedIll (exec (.unknown 0x42) State.reset) = true := by decide +kernel

theorem test_well_formed_bounds :
    (readReq 15 0 16).wellFormed = true ∧ (writeReq 15 0 1).wellFormed = true ∧
      (Instr.frameError 31).wellFormed = true ∧ (Instr.unknown 0xFF).wellFormed = true := by decide +kernel

/-! ### The wire -/

/-- A word of 32 bits is a frame's inbound bits, a word of another width is none (log entry 21). -/
theorem test_words :
    decodeTableWord 32 0x40000000 = some .drain ∧ decodeTableWord 16 0x4000 = none ∧
      nextHas (step (State.reset.withFetchWord 32 0x40000000)) (fun t => decide (t.ctl.governor = .frozen)) = true := by
  decide +kernel

/-- SDI bit by bit, the command byte first: LEASE_RENEW is 01010001, its other 24 bits are unused. -/
theorem test_captured_edges :
    commandOfEdges ([false, true, false, true, false, false, false, true] ++ List.replicate 24 true) = .leaseRenew ∧
      commandOfEdges (List.replicate 31 true) = .frameError 31 ∧ commandOfEdges [] = .frameError 0 := by decide +kernel

/-- A frame of 32 low bits is a NOP: CS_N is asserted, then released. -/
theorem test_frame_on_the_wire :
    nextHas (step (State.reset.withFrame (List.replicate 32 false)))
      (fun t => decide (t.link.csAsserted = true ∧ t.pending = [.nop]) &&
        nextHas (step t) fun u => decide (u.link.frameCount = 1 ∧ u.link.csAsserted = false)) = true := by
  decide +kernel

/-- Inbound bits 31..24 code, 23..16 argument, 15..0 value: SELECT_OBJECT of ZONE 5. -/
theorem test_frame_select : commandOfFrame 0b00010000000000010000000000000101 = .selectObject 1 5 := by decide +kernel

theorem test_frame_drain : commandOfFrame 0b01000000111111111010101010101010 = .drain := by decide +kernel

theorem test_frame_unknown : commandOfFrame 0b01000011000000000000000000000000 = .unknown 0x43 := by decide +kernel

theorem test_frame_write : commandOfFrame 0b00100001000000000000000001100100 = .write 100 := by decide +kernel

/-! ### The queue, the clock, resets -/

theorem test_step_takes_the_front :
    nextHas (step { State.reset with pending := [.nop, .drain] })
      (fun t => decide (t.pending = [.drain] ∧ t.link.frameCount = 1)) = true := by decide +kernel

theorem test_microsecond_idle :
    State.reset.pending = [] ∧ nextHas (step State.reset)
      (fun t => decide (t.pending = [] ∧ t.ctl.refillElapsed = 1 ∧ t.ctl.controlElapsed = 1)) = true := by
  decide +kernel

theorem test_microsecond_rail_filter_ends :
    nextHas (step { State.reset with ctl := { ctl0 with railMode := .auto, railGood := false, railState := .filtering 1 } })
      (fun t => decide (t.due = [.railFilterExpiry] ∧ t.ctl.railState = .filtering 0)) = true := by decide +kernel

theorem test_microsecond_surge_filter_runs :
    nextHas (step { State.reset with
        ctl := { ctl0 with surgeMode := .cycle, surgeAsserted := true, surgeState := .filtering 2 } })
      (fun t => decide (t.due = [] ∧ t.ctl.surgeState = .filtering 1)) = true := by decide +kernel

theorem test_microsecond_lease_opens :
    nextHas (step { State.reset with
        ctl := { ctl0 with lease := { ctl0.lease with state := .waiting, timer := 99, micros := 999 } } })
      (fun t => decide (t.due = [.leaseOpenTime] ∧ t.ctl.lease.timer = 100 ∧ t.ctl.lease.micros = 0)) = true := by
  decide +kernel

theorem test_microsecond_lease_waits :
    nextHas (step { State.reset with
        ctl := { ctl0 with lease := { ctl0.lease with state := .openWindow, timer := 999, micros := 998 } } })
      (fun t => decide (t.due = [] ∧ t.ctl.lease.timer = 999 ∧ t.ctl.lease.micros = 999)) = true := by
  decide +kernel

/-- The refill timer at its last microsecond: three events fall due together, in an order left open. -/
theorem test_microsecond_refill_due : (ctl0.refillPeriod ≤ { ctl0 with refillElapsed := 9 }.refillElapsed + 1) ∧
    ({ ctl0 with refillElapsed := 9 } : Ctl).dueNow = [.refillTick, .ageTick, .cycleBoundary] := by decide +kernel

theorem test_microsecond_control_due :
    nextHas (step { State.reset with ctl := { ctl0 with controlElapsed := 999 } })
      (fun t => decide (t.due = [.controlTick] ∧ t.ctl.controlElapsed = 0)) = true := by decide +kernel

/-- R123: a control tick waits; a divisor write taken first restarts the timer, and the tick does not come. -/
theorem test_divisor_write_undoes_the_tick :
    let s := { State.reset with
      due := [.controlTick], pending := [.controlDivisorWrite 50]
      link := { State.reset.link with field := 8 } }
    nextHas (step s) (fun t => decide (t.due = [] ∧ t.ctl.controlDivisor = 50 ∧ t.ctl.controlElapsed = 0)) = true ∧
    (step { s with pending := [] } = exec .controlTick { s with pending := [], due := [] }) := by
  refine ⟨?_, rfl⟩
  decide +kernel

/-- A refill write undoes a refill expiry as a whole, and none of which an event has been taken (log entry 31). -/
theorem test_refill_write_undoes_the_expiry :
    noTimerExpiry [.ageTick, .controlTick, .refillTick, .railFilterExpiry, .cycleBoundary] = [.railFilterExpiry] ∧
      noTimerExpiry [.ageTick, .controlTick, .cycleBoundary] = [.ageTick, .cycleBoundary] ∧
      nextHas (exec (.refillPeriodWrite 20) { pointed .global 7 State.reset with
        due := [.cycleBoundary, .ageTick, .refillTick, .controlTick] }) (fun t => decide (t.due = [])) = true := by
  decide +kernel

/-- R74: RESET_CONFIG restarts the timers as a write of the period does. -/
theorem test_reset_config_undoes_the_ticks :
    let s := { State.reset with ctl := frozen0 }
    nextHas (exec .resetConfig { s with due := [.controlTick, .ageTick, .refillTick, .cycleBoundary] })
      (fun t => decide (t.due = [])) = true ∧
    nextHas (exec .resetConfig { s with due := [.ageTick, .controlTick] })
      (fun t => decide (t.due = [.ageTick])) = true := by decide +kernel

/-- R135: a rise, and a new fall, before the expiry is taken: the new filter runs on. -/
theorem test_new_filter_outlives_the_old_expiry :
    let s := { State.reset with due := [.railFilterExpiry], pending := []
                                ctl := { ctl0 with railMode := .auto, railGood := false, railState := .filtering 20 } }
    ¬ comes s.ctl .railFilterExpiry ∧ nextHas (step s) (fun t => decide (t = { s with due := [] })) = true ∧
      comes { ctl0 with railMode := .auto, railGood := false, railState := .filtering 0 } .railFilterExpiry := by
  refine ⟨?_, ?_, ?_⟩
  · simp [comes]
  · decide +kernel
  · simp [comes]

theorem test_power_on_takes_the_standing_request :
    let s := standing (some (readReq 3 0 16)) none State.reset
    standingOk s.traffic ∧ s.ctl.resetAsserted = false ∧
      nextHas (exec .powerOnReset s) (fun t => decide (t.traffic.order = [0] ∧ t.traffic.offers.a = none)) = true := by
  decide +kernel

theorem test_power_on_waits_for_cs_n :
    nextHas (exec .powerOnReset { State.reset with link := { State.reset.link with csAsserted := true } })
      (fun t => t.link.awaitRelease) = true := by decide +kernel

theorem test_power_on_quiet_hypotheses :
    State.reset.traffic.offers = { a := none, b := none } ∧ State.reset.traffic.memChannel = none ∧
      State.reset.traffic.memBacklog = [] := by decide +kernel

/-- A FORWARDED slot with its response on the channel, a HELD one and a second response behind. -/
def busy : State :=
  machine (fence 1 ctl0) { table [(0, { base with state := .forwarded true }), (1, { heldFor budget 3 with id := 2 })] with
    memChannel := some { resp := { did := 0, status := .okay, data := [7] }, slot := 0 }
    memBacklog := [{ did := 9, status := .okay, data := [] }] }

theorem test_reset_n_assert :
    busy.ctl.resetAsserted = false ∧ busy.traffic.memoryOwes ≠ [] ∧
      nextHas (exec .resetNAssert busy) (fun t => decide (t.traffic.order = [] ∧ t.traffic.orphans = 2 ∧
        t.traffic.flags = Event.orphanResponse.mask ∧ t.ctl.resetAsserted = true)) = true := by decide +kernel

/-- While RESET_N is asserted power-on reset keeps the standing request; what memory owes becomes orphans. -/
theorem test_power_on_under_reset :
    let s := standing none (some (readReq 3 0 1))
      { busy with ctl := { busy.ctl with resetAsserted := true } }
    s.ctl.resetAsserted = true ∧ nextHas (exec .powerOnReset s) (fun t => decide (t.traffic.order = [] ∧
      t.traffic.offers.b = some { req := readReq 3 0 1, counted := false } ∧ t.traffic.orphans = 2 ∧
      t.traffic.flags = Event.orphanResponse.mask ∧ t.traffic.memChannel = none)) = true := by decide +kernel

theorem test_reset_n_assert_twice :
    let s := { State.reset with ctl := { ctl0 with resetAsserted := true } }
    s.ctl.resetAsserted = true ∧ nextHas (exec .resetNAssert s) (fun t => decide (t = s)) = true := by decide +kernel

theorem test_reset_n_release_without_assert :
    State.reset.ctl.resetAsserted = false ∧
      nextHas (exec .resetNRelease State.reset) (fun t => decide (t = State.reset)) = true := by decide +kernel

/-- RESET_N asserted with a request standing at each port. -/
def underReset : State :=
  standing (some (readReq 3 0 1)) (some (writeReq 4 0 16)) { State.reset with ctl := { ctl0 with resetAsserted := true } }

theorem test_reset_n_release_takes_both :
    nextHas (exec .resetNRelease underReset) (fun t => decide (t.traffic.order = [0, 1] ∧
      (t.traffic.slot 0).port = .a ∧ (t.traffic.slot 1).port = .b ∧ t.traffic.nextWinner = .a)) = true := by
  decide +kernel

/-- RESET_N asserted with one request standing, at port B. -/
def underResetOne : State :=
  standing none (some (writeReq 4 0 16)) { State.reset with ctl := { ctl0 with resetAsserted := true } }

theorem test_reset_n_release_takes_one :
    underResetOne.traffic.offers.get .b ≠ none ∧ underResetOne.traffic.offers.get (otherPort .b) = none ∧
      nextHas (exec .resetNRelease underResetOne) (fun t => decide (t.traffic.order = [0] ∧
        (t.traffic.slot 0).key = { port := .b, id := 4 } ∧ t.traffic.intakeStalls = 0)) = true := by decide +kernel

theorem test_reset_n_release_one_hypotheses :
    pathOk underResetOne.ctl underResetOne.traffic ∧ globalsOk underResetOne.ctl := by
  refine ⟨⟨?_, ?_, ?_, ?_, ?_, ?_, ?_, ?_, ?_⟩, ?_⟩ <;> decide +kernel

/-- No request stands: the release takes nothing. -/
theorem test_reset_n_release_takes_none :
    let s := { State.reset with ctl := { ctl0 with resetAsserted := true } }
    s.traffic.offers = { a := none, b := none } ∧ s.ctl.resetAsserted = true ∧
      nextHas (exec .resetNRelease s) (fun t => decide (t = State.reset)) = true := by decide +kernel

theorem test_reset_n_release_hypotheses :
    pathOk underReset.ctl underReset.traffic ∧ globalsOk underReset.ctl ∧ underReset.traffic.nextWinner = .a := by
  refine ⟨⟨?_, ?_, ?_, ?_, ?_, ?_, ?_, ?_, ?_⟩, ?_, ?_⟩ <;> decide +kernel

/-! ### Windows, classification, intake -/

/-- Windows 2 and 9 both cover page 40. -/
def overlapping : Ctl :=
  window 2 40 (some 3) .readOnly (window 9 40 (some 4) .blocked ctl0)

theorem test_lookup_lowest_wins :
    overlapping.lookup (pageOf (readReq 0 40 1).beatAddr) = { window := some 2, zone := some 3, attr := .readOnly } := by
  decide +kernel

theorem test_lookup_hypotheses :
    let a := (readReq 0 40 1).beatAddr
    (overlapping.windows[(2 : WinIx)].enabled = true ∧ overlapping.windows[(2 : WinIx)].basePage.toNat ≤ (pageOf a).toNat ∧
      (pageOf a).toNat ≤ overlapping.windows[(2 : WinIx)].limitPage.toNat) ∧
    ∀ v : WinIx, v < 2 → ¬ (overlapping.windows[v].enabled = true ∧
      overlapping.windows[v].basePage.toNat ≤ (pageOf a).toNat ∧
      (pageOf a).toNat ≤ overlapping.windows[v].limitPage.toNat) := by decide +kernel

theorem test_lookup_unmapped :
    (∀ v : WinIx, ¬ (overlapping.windows[v].enabled = true ∧
      overlapping.windows[v].basePage.toNat ≤ (pageOf (readReq 0 41 1).beatAddr).toNat ∧
      (pageOf (readReq 0 41 1).beatAddr).toNat ≤ overlapping.windows[v].limitPage.toNat)) ∧
    overlapping.lookup 41 = { window := none, zone := some 0, attr := .readWrite } := by decide +kernel

theorem test_classify_refused :
    forbidden (overlapping.lookup 40).attr .write ∧
      ((Traffic.powerOn.create overlapping .a (writeReq 0 40 2) 0).slot 0).state = .answering .refused := by
  unfold forbidden; decide +kernel

theorem test_classify_blocked :
    let c := window 0 7 (some 1) .blocked ctl0
    forbidden (c.lookup 7).attr .read ∧
      ((Traffic.powerOn.create c .b (readReq 0 7 2) 0).slot 0).state = .answering .refused := by
  unfold forbidden; decide +kernel

theorem test_classify_fenced :
    let c := fence 0 ctl0
    ¬ forbidden (c.lookup 0).attr .read ∧ (∃ z, (c.lookup 0).zone = some z ∧ c.fenced z = true) ∧
      ((Traffic.powerOn.create c .a (readReq 0 0 2) 0).slot 0).state = .answering .fenced := by
  unfold forbidden; decide +kernel

/-- Credit exactly equal to the cost pays; one less does not. -/
theorem test_classify_paid_and_unpaid :
    ¬ forbidden (ctl0.lookup 0).attr .read ∧ (∀ z, (ctl0.lookup 0).zone = some z → ctl0.fenced z = false) ∧
    (((Traffic.powerOn.setCredit 0 4).create ctl0 .a (readReq 0 0 4) 0).slot 0).state = .ready ∧
    (((Traffic.powerOn.setCredit 0 3).create ctl0 .a (readReq 0 0 4) 0).slot 0).state = .held budget 0 := by
  unfold forbidden; decide +kernel

/-- An UNGOVERNED request costs nothing and is paid (R57, R62). -/
theorem test_classify_ungoverned :
    let c := window 0 7 none .readWrite ctl0
    (∀ z, (c.lookup 7).zone = some z → c.fenced z = false) ∧
      ((Traffic.powerOn.create c .a (writeReq 0 7 4) 0).slot 0).cost = 0 ∧
      ((Traffic.powerOn.create c .a (writeReq 0 7 4) 0).slot 0).state = .ready := by decide +kernel

theorem test_offer_is_taken :
    State.reset.traffic.offers.get .b = none ∧ hasRoom State.reset.ctl State.reset.traffic .b (writeReq 1 0 16) ∧
      nextHas (exec (.requestOffer .b (writeReq 1 0 16)) State.reset)
        (fun t => decide (t.traffic.order = [0] ∧ t.traffic.memOffer = some 0 ∧ t.traffic.poolInUse = 16)) = true := by
  unfold hasRoom; decide +kernel

theorem test_offer_behind_an_offer :
    let s := standing (some (readReq 1 0 1)) none State.reset
    s.traffic.offers.get .a ≠ none ∧
      nextHas (exec (.requestOffer .a (readReq 2 0 1)) s) (fun t => decide (t = s)) = true := by decide +kernel

/-- A full table: the request stalls, is counted once and raises TABLE_FULL. -/
theorem test_offer_stalls :
    let s := machine wide (crowded 64)
    s.traffic.offers.get .a = none ∧ s.ctl.resetAsserted = false ∧ ¬ hasRoom s.ctl s.traffic .a (readReq 1 0 1) ∧
      tableFull s.traffic ∧ settled s ∧
      nextHas (exec (.requestOffer .a (readReq 1 0 1)) s) (fun t => decide (t.traffic.intakeStalls = 1 ∧
        t.traffic.flags = Event.tableFull.mask)) = true := by
  unfold hasRoom tableFull; decide +kernel

/-- A quota reached with slots FREE: the request stalls without TABLE_FULL. -/
theorem test_offer_stalls_at_quota :
    let s := machine { ctl0 with quotas := { a := 1, b := 1 } } (crowded 1)
    s.traffic.offers.get .a = none ∧ ¬ hasRoom s.ctl s.traffic .a (readReq 1 0 1) ∧ ¬ tableFull s.traffic ∧
      settled s ∧ nextHas (exec (.requestOffer .a (readReq 1 0 1)) s) (fun t => decide (t.traffic.intakeStalls = 1 ∧
        t.traffic.flags = 0)) = true := by
  unfold hasRoom tableFull; decide +kernel

theorem test_offer_under_reset :
    let s := { State.reset with ctl := { ctl0 with resetAsserted := true } }
    s.traffic.offers.get .a = none ∧ s.ctl.resetAsserted = true ∧ settled s ∧
      nextHas (exec (.requestOffer .a (readReq 1 0 1)) s)
        (fun t => decide (t.traffic.order = [] ∧ t.traffic.intakeStalls = 0)) = true := by decide +kernel

theorem test_request_take :
    let s := standing (some (readReq 1 0 1)) none State.reset
    s.traffic.offers.get .a = some { req := readReq 1 0 1, counted := false } ∧
      hasRoom s.ctl s.traffic .a (readReq 1 0 1) ∧
      nextHas (exec (.requestTake .a) s) (fun t => decide (t.traffic.order = [0])) = true := by
  unfold hasRoom; decide +kernel

theorem test_request_take_nothing :
    nextHas (exec (.requestTake .a) State.reset) (fun t => decide (t = State.reset)) = true := by decide +kernel

/-- One FREE slot left: a contest, which A wins, and B stalls (R32). -/
theorem test_contest_last_slot :
    let s := standing (some (readReq 1 0 1)) (some (readReq 2 0 1)) (machine wide (crowded 63))
    s.ctl.resetAsserted = false ∧ hasRoom s.ctl s.traffic .a (readReq 1 0 1) ∧
      hasRoom s.ctl s.traffic .b (readReq 2 0 1) ∧
      (let t := s.traffic.examineBoth s.ctl
       (t.slot 63).port = .a ∧ t.nextWinner = .b ∧ t.intakeStalls = 1 ∧ t.offers.b ≠ none) := by
  unfold hasRoom; decide +kernel

/-- Two FREE slots left: both are taken. -/
theorem test_contest_both_fit :
    let s := standing (some (readReq 1 0 1)) (some (readReq 2 0 1)) (machine wide (crowded 62))
    hasRoom s.ctl s.traffic .a (readReq 1 0 1) ∧ hasRoom s.ctl s.traffic .b (readReq 2 0 1) ∧
      s.traffic.occupancy + 2 ≤ 64 ∧
      (let t := s.traffic.examineBoth s.ctl
       (t.slot 62).port = .a ∧ (t.slot 63).port = .b ∧ t.nextWinner = .a) := by
  unfold hasRoom; decide +kernel

/-- Only one port's request has room. -/
theorem test_contest_one_fits :
    let s := standing (some (readReq 1 0 1)) (some (readReq 2 0 1))
      (machine { ctl0 with quotas := { a := 1, b := 64 } } (crowded 2))
    ¬ hasRoom s.ctl s.traffic .a (readReq 1 0 1) ∧ hasRoom s.ctl s.traffic .b (readReq 2 0 1) ∧
      (let t := s.traffic.examineBoth s.ctl
       (t.slot 2).port = .b ∧ t.nextWinner = .a ∧ t.intakeStalls = 1) := by
  unfold hasRoom; decide +kernel

/-- Neither has room. -/
theorem test_contest_none_fits :
    let s := standing (some (readReq 1 0 1)) (some (readReq 2 0 1)) (machine wide (crowded 64))
    ¬ hasRoom s.ctl s.traffic .a (readReq 1 0 1) ∧ ¬ hasRoom s.ctl s.traffic .b (readReq 2 0 1) ∧
      (s.traffic.examineBoth s.ctl).intakeStalls = 2 := by
  unfold hasRoom; decide +kernel

/-! ### Memory and answers -/

/-- Slot 5 is offered to memory, slot 6 waits behind it. -/
def offering : State :=
  machine ctl0 (table [(5, { readySlot with port := .b, id := 7, length := 3 }), (6, { readySlot with id := 1 })])

theorem test_memory_take :
    offering.traffic.memOffer = some 5 ∧ offering.traffic.ready = [5, 6] ∧
      nextHas (exec .memoryTake offering) (fun t => decide ((t.traffic.slot 5).state = .forwarded false ∧
        t.traffic.memOffer = some 6 ∧ (t.traffic.account 0).counters.admittedBeats = 3)) = true := by decide +kernel

theorem test_memory_take_nothing :
    State.reset.traffic.memOffer = none ∧
      nextHas (exec .memoryTake State.reset) (fun t => decide (t = State.reset)) = true := by decide +kernel

/-- Port B's IDs cross as 16..31 (R29). -/
theorem test_memory_offer :
    (offering.traffic.offeredRequest.map fun d => (d.did.val, d.length)) = some (23, 3) ∧
    nextHas (exec .memoryOffer { offering with traffic := { offering.traffic with memOffer := none } })
      (fun t => decide (t = offering)) = true := by decide +kernel

/-- Two FORWARDED slots of key A/0, the older in slot 9. -/
def waiting : State := machine ctl0 (table [(9, { forwardedSlot with length := 2 }), (4, forwardedSlot)])

theorem test_memory_response_matches_the_oldest :
    waiting.traffic.memChannel = none ∧ waiting.traffic.memBacklog = [] ∧ waiting.traffic.order = [] ++ 9 :: [4] ∧
      (waiting.traffic.slot 9).state = .forwarded false ∧
      nextHas (exec (.memoryResponse { did := 0, status := .okay, data := [1] }) waiting) (fun t =>
        decide ((t.traffic.slot 9).state = .forwarded true ∧
          t.traffic.resps.a.map (fun o => o.resp.status) = some .memError)) = true := by decide +kernel

theorem test_memory_response_orphan :
    (∀ j ∈ waiting.traffic.order, (waiting.traffic.slot j).key = { port := .b, id := 15 } →
      (waiting.traffic.slot j).state.isForwarded = false) ∧ settled waiting ∧
      nextHas (exec (.memoryResponse { did := 31, status := .okay, data := [] }) waiting)
        (fun t => decide (t.traffic.orphans = 1 ∧ t.traffic.flags = Event.orphanResponse.mask)) = true := by
  decide +kernel

/-- An orphan before a match: it is counted, the match stays, and the third waits. -/
theorem test_pump_takes_orphans :
    let m : MemResponse := { did := 0, status := .okay, data := [1] }
    let u := Traffic.pump [{ m with did := 31 }, m, m] waiting.traffic
    u.orphans = 1 ∧ u.memChannel = some { resp := m, slot := 9 } ∧ u.memBacklog = [m] ∧
      (Traffic.pump [{ m with did := 31 }] waiting.traffic).memChannel = none := by decide +kernel

theorem test_memory_response_waits :
    busy.traffic.memChannel.isSome = true ∧ settled busy ∧
      nextHas (exec (.memoryResponse { did := 0, status := .okay, data := [] }) busy)
        (fun t => decide (t.traffic.memBacklog.length = 2)) = true := by decide +kernel

/-- A matched response at a chain head, and an older ANSWERING head of the same port: memory is preferred. -/
def contended : Traffic :=
  { table [(1, { answeringSlot with id := 8 }), (2, { base with state := .forwarded true })] with
    memChannel := some { resp := { did := 0, status := .okay, data := [7] }, slot := 2 } }

theorem test_response_offer_memory_first :
    let s := { State.reset with traffic := contended }
    s.traffic.resps.get .a = none ∧ s.ctl.resetAsserted = false ∧ (s.traffic.slot 2).port = .a ∧
      s.traffic.isHead 2 = true ∧ nextHas (exec (.responseOffer .a) s)
        (fun t => decide (t.traffic.resps.a.map (fun o => (o.slot, o.kind)) = some (2, .memory))) = true := by
  decide +kernel

theorem test_response_offer_synthetic :
    let s := { State.reset with traffic := table [(1, { answeringSlot with length := 4 })] }
    s.traffic.memChannel = none ∧ s.traffic.order = [] ++ 1 :: [] ∧
      (s.traffic.slot 1).state = .answering .expired ∧ s.traffic.isHead 1 = true ∧
      nextHas (exec (.responseOffer .a) s)
        (fun t => decide (t.traffic.resps.a.map (fun o => (o.kind, o.resp.status, o.resp.data.length)) =
          some (.synthetic, .expired, 4))) = true := by decide +kernel

theorem test_response_offer_nothing :
    (∀ j ∈ State.reset.traffic.order, ¬ ((State.reset.traffic.slot j).port = .b ∧
      (State.reset.traffic.slot j).state.isAnswering = true ∧ State.reset.traffic.isHead j = true)) ∧
      nextHas (exec (.responseOffer .b) State.reset) (fun t => decide (t = State.reset)) = true := by decide +kernel

theorem test_response_offer_stands :
    busy.traffic.resps.get .a ≠ none ∧
      nextHas (exec (.responseOffer .a) busy) (fun t => decide (t = busy)) = true := by decide +kernel

theorem test_delivery_nothing :
    State.reset.traffic.resps.get .a = none ∧
      nextHas (exec (.delivery .a) State.reset) (fun t => decide (t = State.reset)) = true := by decide +kernel

/-- A delivered memory response frees slot 0; the response behind it is an orphan. -/
theorem test_delivery_memory :
    (busy.traffic.resps.get .a).map (fun o => (o.slot, o.kind)) = some (0, .memory) ∧
      nextHas (exec (.delivery .a) busy) (fun t => decide (t.traffic.order = [1] ∧ t.traffic.orphans = 1 ∧
        (t.traffic.slot 0).state = .free ∧ t.traffic.resps.a = none)) = true := by decide +kernel

/-- The last FORWARDED slot of a drain is delivered: FROZEN (R150). -/
theorem test_delivery_ends_the_drain :
    let s := machine { ctl0 with governor := .draining } { table [(0, { base with state := .forwarded true })] with
      memChannel := some { resp := { did := 0, status := .memError, data := [] }, slot := 0 } }
    nextHas (exec (.delivery .a) s) (fun t => decide (t.ctl.governor = .frozen ∧
      t.traffic.flags = Event.frozen.mask ∧ (t.traffic.account 0).counters.memoryErrors = 1)) = true := by decide +kernel

/-! ### Credit, age, holds, fences -/

theorem test_sweep_releases :
    let t := table [(3, heldFor noReasons 9), (4, heldFor { noReasons with order := true } 2)]
    t.order.Nodup ∧ (t.sweep.slot 3).state = .ready ∧ (t.sweep.slot 4).state = .ready ∧
      (t.sweep.account 0).longestHold = 9 := by decide +kernel

/-- A candidate that costs 1: paid at credit 1, not at credit 0. -/
theorem test_payment_attempt :
    let t := table [(3, heldFor budget 0)]
    t.order = [] ++ 3 :: [] ∧ (t.slot 3).state.isHeld = true ∧ (t.slot 3).zone = some 0 ∧ (t.slot 3).paid = false ∧
      ((t.slot 3).cost : Int) ≤ (t.setCredit 0 1).credit 0 ∧
      (((t.setCredit 0 1).payAttempt 0).slot 3).paid = true ∧ ((t.setCredit 0 1).payAttempt 0).credit 0 = 0 ∧
      (t.setCredit 0 0).credit 0 < (t.slot 3).cost ∧ (((t.setCredit 0 0).payAttempt 0).slot 3).paid = false := by
  decide +kernel

/-- Attempts in zones 0 and 1: both candidates are paid, and the sweep that follows releases them. -/
theorem test_payment_attempts :
    let u := (table [(3, heldFor budget 0), (4, { heldFor budget 0 with zone := some 1, id := 1 })]).payAttempts [0, 1]
    (u.slot 3).state = .ready ∧ (u.slot 4).state = .ready ∧ u.credit 0 = 65534 := by decide +kernel

theorem test_payment_attempt_no_candidate :
    let t := table [(3, heldFor { noReasons with freeze := true } 0)]
    ∀ j ∈ t.order, (t.slot j).state.isHeld = true → (t.slot j).zone = some 0 → (t.slot j).paid = true := by decide +kernel

/-- Credit 2 rises by the rate 5 to 7, stops at a ceiling of 6, and pays the candidate. -/
theorem test_refill_tick :
    let c := onZone 0 (fun r => { r with ceiling := 6, control := { r.control with openRate := 5, rate := 5 } }) ctl0
    let s := machine c ((table [(3, { heldFor budget 0 with cost := 4 })]).setCredit 0 2)
    nextHas (exec .refillTick s) (fun t => decide ((t.traffic.slot 3).state = .ready ∧ t.traffic.credit 0 = 2)) = true := by
  decide +kernel

theorem test_refill_tick_quiet_hypotheses :
    pathOk State.reset.ctl State.reset.traffic ∧ settled State.reset ∧ paidUp (State.reset.traffic.refill ctl0) := by
  refine ⟨⟨?_, ?_, ?_, ?_, ?_, ?_, ?_, ?_, ?_⟩, ?_, ?_⟩ <;> decide +kernel

theorem test_answer_refunds :
    let t := (table [(3, { heldFor { noReasons with rail := true } 7 with dir := .write, length := 2, cost := 5 })]).setCredit 0 1
    (t.slot 3).state = .held { noReasons with rail := true } 7 ∧
      (let u := t.answer ctl0 .expired 3
       (u.slot 3).state = .answering .expired ∧ u.credit 0 = 6 ∧ u.poolInUse = 0 ∧ (u.account 0).longestHold = 7) := by
  decide +kernel

theorem test_answer_leaves_a_ready_slot :
    (offering.traffic.slot 5).state.isHeld = false ∧ offering.traffic.answer ctl0 .expired 5 = offering.traffic := by
  decide +kernel

/-- At limit 6: a BUDGET slot of age 5 is forced on debt; a FREEZE slot does not age. -/
def ageing : State :=
  machine (onZone 0 (fun r => { r with holdLimit := 6, ceiling := 40 }) ctl0)
    ((table [(3, { heldFor budget 5 with cost := 30 }),
      (4, { heldFor { noReasons with freeze := true } 5 with id := 1 })]).setCredit 0 2)

theorem test_age_tick_forces :
    nextHas (exec .ageTick ageing) (fun t => decide ((t.traffic.slot 3).state = .ready ∧
      (t.traffic.slot 3).forced = true ∧ t.traffic.credit 0 = -28 ∧ waitOf t.traffic 4 = some ({ noReasons with freeze := true }, 5) ∧
      t.traffic.flags = Event.holdForced.mask)) = true := by decide +kernel

theorem test_age_tick_quiet_hypotheses :
    let s := machine ctl0 ((table [(3, { heldFor budget 250 with cost := 30 })]).setCredit 0 2)
    pathOk s.ctl s.traffic ∧ settled s ∧ ∀ i, dueToExpire s.ctl (agedSlot (s.traffic.slot i)) = false := by
  refine ⟨⟨?_, ?_, ?_, ?_, ?_, ?_, ?_, ?_, ?_⟩, ?_, ?_⟩ <;> decide +kernel

/-- A BUDGET slot under FORCE is forced; one with ORDER as well is answered. -/
theorem test_turn_hypotheses :
    let c := onZone 0 (fun r => { r with policy := .force }) ctl0
    let d := onZone 0 (fun r => { r with policy := .abort }) ctl0
    isForced c (heldFor budget 5) budget ∧ ¬ isForced d (heldFor budget 5) budget ∧
      ¬ isForced c (heldFor budget 5) { budget with order := true } ∧
      (((table [(3, heldFor budget 5)]).turn d 3).slot 3).state = .answering .expired := by
  unfold isForced; decide +kernel

theorem test_react_hypotheses :
    (∀ h, (fence 2 ctl0).holdActive h = ctl0.holdActive h) ∧ (!ctl0.fenced 2 && (fence 2 ctl0).fenced 2) = true ∧
      ¬ (∃ z, ctl0.fenced z = true ∧ (fence 2 ctl0).fenced z = false) ∧
      ((Traffic.powerOn.react (fence 2 ctl0) ctl0).flags = Event.fenceLifted.mask) := by
  refine ⟨fun h => by cases h <;> decide +kernel, ?_, ?_, ?_⟩ <;> decide +kernel

theorem test_react_holds :
    ctl0.holdActive .rail = false ∧ ({ ctl0 with railState := .lost } : Ctl).holdActive .rail = true ∧
      (offering.traffic.react ctl0 { ctl0 with railState := .lost }).memOffer = none ∧
      frozen0.holdActive .freeze = true ∧ ctl0.holdActive .freeze = false ∧
      (((table [(3, heldFor { noReasons with freeze := true } 5)]).react frozen0 ctl0).slot 3).state = .ready ∧
      ((({ ctl0 with surgeState := .tripped } : Ctl).holdActive .surge) = true) := by decide +kernel

/-- The onset of zone 0's fence: slot 3 is answered, slot 4 of zone 1 stays, slot 5 is not touched. -/
theorem test_fence_onset :
    let t := table [(3, heldFor budget 5), (4, { heldFor budget 2 with zone := some 1, id := 2 }), (5, readySlot)]
    let u := t.fenceOnset (fence 0 ctl0) fun z => decide (z = 0)
    orderOk t ∧ (t.slot 3).state.isHeld = true ∧ (t.slot 3).zone = some 0 ∧ (t.slot 5).state.isHeld = false ∧
      (t.slot 4).state.isHeld = true ∧ (u.slot 3).state = .answering .fenced ∧ (u.slot 4).state = .held budget 2 ∧
      u.slot 5 = t.slot 5 ∧ (u.account 0).counters.fencedAnswers = 1 := by decide +kernel

/-- A paid slot of cost 4 behind a refund that the ceiling stops: credit 65533 rises to 65535, and its age is kept. -/
theorem test_fence_onset_refunds :
    let t := (table [(3, { heldFor { noReasons with surge := true } 5 with cost := 4 })]).setCredit 0 65533
    let u := t.fenceOnset (fence 0 ctl0) fun z => decide (z = 0)
    creditOk (fence 0 ctl0) t ∧ (t.slot 3).paid = true ∧ u.credit 0 = 65535 ∧ (u.account 0).longestHold = 5 ∧
      ageLeaving t u 0 3 = some 5 := by decide +kernel

/-! ### Sampling and rate control -/

/-- Zone 1 watches channel 2, which is being converted with offset 31. -/
def sampling : State :=
  { State.reset with
    ctl := onZone 1 (fun r => { r with
        control := { r.control with sensor := some 2 }
        monitor := { r.monitor with mode := .cycle, deglitch := 1 } })
      { ctl0 with
        channels := put ctl0.channels 2 { Channel.powerOn with enabled := true, offset := 31 }
        conversion := some { channel := 2, offset := 31, discard := false } } }

/-- 383 is the top of the range: the sample trips the zone, and the fence follows. -/
theorem test_conversion_trips :
    nextHas (exec (.conversionCompletion 400) sampling) (fun t => decide (t.ctl.channels[(2 : ChanIx)].lastSample = 383 ∧
      t.ctl.zones[(1 : ZoneIx)].control.sampleSum = 383 ∧ t.ctl.zones[(1 : ZoneIx)].monitor.warnLevel = .high ∧
      t.ctl.fenced 1 = true ∧ t.traffic.flags = Event.zoneWarn.mask ||| Event.zoneShutdown.mask ∧
      t.ctl.scanRound = 1)) = true := by decide +kernel

theorem test_conversion_hypotheses :
    State.reset.ctl.conversion = none ∧
      (sampling.ctl.conversion.map fun v => (v.channel, v.discard)) = some (2, false) ∧
      nextHas (exec (.conversionCompletion 10) { sampling with
          ctl := { sampling.ctl with conversion := some { channel := 2, offset := 0, discard := true } } })
        (fun t => decide (t.ctl.channels = sampling.ctl.channels ∧ t.ctl.scanRound = 1)) = true := by decide +kernel

theorem test_conversion_fault :
    nextHas (exec .conversionFault sampling) (fun t => decide (t.ctl.channels[(2 : ChanIx)].fault = true ∧
      t.traffic.flags = Event.sensorFault.mask)) = true ∧
    nextHas (exec .conversionFault State.reset) (fun t => decide (t = State.reset)) = true := by decide +kernel

theorem test_empty_round_end :
    State.reset.ctl.conversion = none ∧
      nextHas (exec .emptyRoundEnd State.reset) (fun t => decide (t.ctl.scanRound = 1)) = true ∧
      nextHas (exec .emptyRoundEnd sampling) (fun t => decide (t = sampling)) = true := by decide +kernel

/-- Zone 1 in PI with `count` samples that add up to `sum`. -/
def looping (primed : Bool) (count : Nat) (sum : Int) (f : Control → Control) : State :=
  { State.reset with ctl := onControl 1 (fun k => f { k with
      sensor := some 2, mode := .pi, source := .pi, kp := 512, ki := 64, u := 25600, rate := 100, primed := primed,
      e1 := 4, e2 := 2, sampleCount := count, sampleSum := sum, minSamples := 4 }) ctl0 }

/-- Average 180 of 4 samples, e = −10: ΔU = 512·(−14) + 64·(−10) = −7808, U = 17792, rate 69 (R114). -/
theorem test_pi_update :
    let s := looping true 4 720 id
    s.ctl.zones[(1 : ZoneIx)].control.sensor = some 2 ∧ s.ctl.zones[(1 : ZoneIx)].control.source = .pi ∧
      s.ctl.zones[(1 : ZoneIx)].control.primed = true ∧ controlOk s.ctl.zones[(1 : ZoneIx)].control ∧
      s.ctl.zones[(1 : ZoneIx)].control.minSamples ≤ s.ctl.zones[(1 : ZoneIx)].control.sampleCount ∧
      nextHas (exec .controlTick s) (fun t => decide (t.ctl.zones[(1 : ZoneIx)].control.u = 17792 ∧
        t.ctl.zones[(1 : ZoneIx)].control.rate = 69 ∧ t.ctl.zones[(1 : ZoneIx)].control.e1 = -10 ∧
        t.ctl.zones[(1 : ZoneIx)].control.e2 = 4)) = true := by decide +kernel

theorem test_priming :
    let s := looping false 4 720 id
    s.ctl.zones[(1 : ZoneIx)].control.primed = false ∧ controlOk s.ctl.zones[(1 : ZoneIx)].control ∧
      nextHas (exec .controlTick s) (fun t => decide (t.ctl.zones[(1 : ZoneIx)].control.e1 = -10 ∧
        t.ctl.zones[(1 : ZoneIx)].control.primed = true ∧ t.ctl.zones[(1 : ZoneIx)].control.u = 25600)) = true ∧
      nextHas (exec .controlTick (looping false 3 540 id)) (fun t => decide
        (t.ctl.zones[(1 : ZoneIx)].control.primed = false)) = true := by decide +kernel

/-- The third short period at stale limit 3 enters FALLBACK at rate 256; a valid one leaves it (R116, R117). -/
theorem test_stale :
    nextHas (exec .controlTick (looping true 3 540 fun k => { k with staleRun := 2 })) (fun t => decide
      (t.ctl.zones[(1 : ZoneIx)].control.source = .fallback ∧ t.ctl.zones[(1 : ZoneIx)].control.rate = 256 ∧
        t.traffic.flags = Event.zoneStale.mask)) = true ∧
    nextHas (exec .controlTick (looping true 4 720 fun k =>
        { k with source := .fallback, rate := 256, staleRun := 3, causeStale := true })) (fun t => decide
      (t.ctl.zones[(1 : ZoneIx)].control.source = .pi ∧ t.ctl.zones[(1 : ZoneIx)].control.u = 65536 ∧
        t.ctl.zones[(1 : ZoneIx)].control.primed = false)) = true ∧
    (looping true 0 0 fun k => { k with mode := .openLoop, source := .openLoop }).ctl.zones[(1 : ZoneIx)].control.source ≠
      .pi := by decide +kernel

/-- A WARN trip ends at an average below shutdown − hysteresis (R131); the blanking count falls (R175). -/
theorem test_control_tick_monitor_and_blanking :
    let c := onMonitor 1 (fun m => { m with mode := .warn, tripped := true, overRun := 8 }) (looping true 4 820 id).ctl
    let s := { State.reset with ctl := { c with indicator := { source := .occupancy, blanking := 1, duty := .low } } }
    nextHas (exec .controlTick s) (fun t => decide (t.ctl.zones[(1 : ZoneIx)].monitor.tripped = false ∧
      t.ctl.zones[(1 : ZoneIx)].lastAverage = some 205 ∧
      t.ctl.indicator = { source := .occupancy, blanking := 0, duty := { num := 0, den := 64 } })) = true := by
  decide +kernel

/-! ### Rail, surge, lease, governor -/

theorem test_railgood_falls :
    let s := { State.reset with ctl := { ctl0 with railMode := .auto, railState := .good } }
    s.ctl.railGood = true ∧ nextHas (exec .railgoodFall s) (fun t => decide (t.ctl.railState = .filtering 20)) = true := by
  decide +kernel

theorem test_rail_lost_and_back :
    let s := machine { ctl0 with railMode := .auto, railGood := false, railState := .filtering 1 }
      (table [(3, readySlot)])
    s.traffic.memOffer = some 3 ∧ nextHas (exec .railFilterExpiry s) (fun t =>
      decide (t.ctl.railState = .lost ∧ t.traffic.memOffer = none ∧ t.traffic.flags = Event.railLoss.mask) &&
      nextHas (exec .railgoodRise t) fun u => decide (u.ctl.railState = .good ∧ u.traffic.memOffer = some 3)) = true := by
  decide +kernel

theorem test_railgood_level_already_there :
    State.reset.ctl.railGood = true ∧
      nextHas (exec .railgoodRise State.reset) (fun t => decide (t = State.reset)) = true ∧
      nextHas (exec .railFilterExpiry State.reset) (fun t => decide (t = State.reset)) = true := by decide +kernel

theorem test_surge_trips_and_cycles :
    let s := { State.reset with ctl := { ctl0 with surgeMode := .cycle, surgeState := .armed } }
    s.ctl.surgeAsserted = false ∧ nextHas (exec .surgeAssert s) (fun t =>
      decide (t.ctl.surgeState = .tripped ∧ t.traffic.flags = Event.surge.mask) &&
      nextHas (exec .surgeDeassert t) fun u => decide (u.ctl.surgeState = .tripped) &&
        nextHas (exec .cycleBoundary u) fun v => decide (v.ctl.surgeState = .armed)) = true := by decide +kernel

theorem test_surge_filter :
    let s := { State.reset with ctl := { ctl0 with surgeMode := .latched, surgeState := .armed, surgeFilter := .us4 } }
    nextHas (exec .surgeAssert s) (fun t => decide (t.ctl.surgeState = .filtering 4) &&
      nextHas (exec .surgeFilterExpiry t) fun u => decide (u.ctl.surgeState = .tripped)) = true ∧
    nextHas (exec .surgeFilterExpiry s) (fun t => decide (t = s)) = true ∧
    nextHas (exec .surgeDeassert s) (fun t => decide (t = s)) = true := by decide +kernel

/-- `reset` with the lease in this state. -/
def leased (st : LeaseState) (timer : Nat) : State :=
  { State.reset with ctl := { ctl0 with lease := { ctl0.lease with state := st, timer := timer } } }

theorem test_lease_times :
    nextHas (exec .leaseOpenTime (leased .waiting 99)) (fun t => decide (t.ctl.lease.state = .openWindow)) = true ∧
    nextHas (exec .leaseCloseTime (leased .openWindow 999)) (fun t => decide (t.ctl.lease.state = .violated ∧
      t.ctl.lease.kind = .late ∧ t.ctl.zones[(7 : ZoneIx)].control.rate = 256)) = true ∧
    nextHas (exec .leaseOpenTime State.reset) (fun t => decide (t = State.reset)) = true ∧
    nextHas (exec .leaseCloseTime State.reset) (fun t => decide (t = State.reset)) = true := by decide +kernel

/-- R147's race with open time 0: the renewal leaves OPEN_WINDOW with timer 0, and the close time behind it is none. -/
theorem test_lease_renewal_before_close_time :
    let s := { State.reset with ctl := { ctl0 with lease :=
      { ctl0.lease with state := .openWindow, openTime := 0, closeTime := 5, timer := 5 } } }
    takesFrames s ∧ ¬ (s.ctl.lease.timer = 0 ∧ s.ctl.lease.micros = 0) ∧
    nextHas (exec .leaseRenew s) (fun t => decide (t.ctl.lease.state = .openWindow ∧ t.ctl.lease.timer = 0 ∧
      t.ctl.lease.micros = 0) && nextHas (exec .leaseCloseTime t) fun u => decide (u = t)) = true ∧
    nextHas (exec .leaseCloseTime s) (fun t => decide (t.ctl.lease.state = .violated ∧ t.ctl.lease.timer = 5) &&
      nextHas (exec .leaseRenew t) fun u => decide (u.link.status = .conditionPresent)) = true := by decide +kernel

theorem test_lease_frames :
    takesFrames State.reset ∧
    nextHas (exec .leaseStart State.reset) (fun t => decide (t.ctl.lease.state = .waiting ∧ t.link.value = 1)) = true ∧
    nextHas (exec .leaseRenew (leased .openWindow 500)) (fun t => decide (t.ctl.lease.state = .waiting)) = true ∧
    nextHas (exec .leaseRenew (leased .waiting 50)) (fun t => decide (t.ctl.lease.kind = .early ∧
      t.link.status = .conditionPresent)) = true ∧
    nextHas (exec .leaseStop (leased .waiting 50)) (fun t => decide (t.ctl.lease.state = .stopped)) = true ∧
    nextHas (exec .leaseStop (leased .violated 50)) (fun t => decide (t.link.status = .busy)) = true := by
  decide +kernel

theorem test_drain :
    State.reset.ctl.governor = .run ∧ settled State.reset ∧ State.reset.traffic.inFlight = 0 ∧
    nextHas (exec .drain State.reset) (fun t => decide (t.ctl.governor = .frozen ∧ t.link.value = 2)) = true ∧
    settled offering ∧ offering.traffic.inFlight ≠ 0 ∧
    nextHas (exec .drain offering) (fun t => decide (t.ctl.governor = .draining ∧ t.link.value = 1)) = true := by
  decide +kernel

theorem test_frozen_entry :
    let s := { State.reset with ctl := { ctl0 with governor := .draining } }
    s.traffic.inFlight = 0 ∧ nextHas (exec .frozenEntry s) (fun t => decide (t.ctl.governor = .frozen)) = true ∧
      nextHas (exec .frozenEntry State.reset) (fun t => decide (t = State.reset)) = true := by decide +kernel

theorem test_resume_from_draining :
    let s := machine { ctl0 with governor := .draining } (table [(3, heldFor { noReasons with freeze := true } 5), (4, forwardedSlot)])
    nextHas (exec .resume s) (fun t => decide (t.ctl.governor = .run ∧ (t.traffic.slot 3).state = .ready)) = true := by
  decide +kernel

/-- The map moved slot 3 to a blocked window, slot 4 to a fenced zone and left slot 5 where it was (R153). -/
theorem test_resume_from_frozen :
    let c := window 0 7 (some 1) .blocked (window 1 8 (some 2) .readWrite (fence 2 frozen0))
    let f : Reasons := { noReasons with freeze := true }
    let s := machine c (table [(3, { heldFor f 5 with beatAddr := (readReq 0 7 1).beatAddr }),
      (4, { heldFor f 5 with beatAddr := (readReq 0 8 1).beatAddr, id := 2 }), (5, { heldFor f 5 with id := 3 })])
    takesFrames s ∧ s.ctl.governor = .frozen ∧
      nextHas (exec .resume s) (fun t => decide ((t.traffic.slot 3).state = .answering .refused ∧
        (t.traffic.slot 4).state = .answering .fenced ∧ (t.traffic.slot 5).state = .ready)) = true := by decide +kernel

theorem test_reset_config_accepted :
    let s := { State.reset with ctl := { onZone 3 (fun r => { r with ceiling := 9 }) frozen0 with refillPeriod := 77 } }
    takesFrames s ∧ s.ctl.governor = .frozen ∧ (∀ i, (s.traffic.slot i).state = .free) ∧ settled s ∧
      nextHas (exec .resetConfig s) (fun t => decide (t.ctl = ctl0 ∧ t.link.status = .done)) = true := by decide +kernel

theorem test_reset_config_busy :
    let s := machine frozen0 (table [(3, answeringSlot)])
    ¬ (∀ i, (s.traffic.slot i).state = .free) ∧
      nextHas (exec .resetConfig s) (fun t => decide (t.link.status = .busy ∧ t.link.value = 2)) = true ∧
      nextHas (exec .resetConfig State.reset) (fun t => decide (t.link.status = .busy ∧ t.link.value = 0)) = true := by
  decide +kernel

theorem test_reset_config_path_hypothesis : pathOk frozen0 State.reset.traffic := by
  refine ⟨?_, ?_, ?_, ?_, ?_, ?_, ?_, ?_, ?_⟩ <;> decide +kernel

/-! ### The management link -/

theorem test_cs_n_assert :
    State.reset.link.csAsserted = false ∧
    nextHas (exec .csNAssert { State.reset with
        ctl := frozen0, link := { State.reset.link with value := 0xABCD, status := .busy, frameCount := 5 } })
      (fun t => decide (t.link.outbound = some 0xABCD0352#32)) = true := by decide +kernel

/-- SDO is driven from the assertion to the release of CS_N, most significant bit first, zeros past the 32nd edge. -/
theorem test_sdo :
    State.reset.link.sdo 0 = none ∧ nextHas (exec .csNAssert { State.reset with
        link := { State.reset.link with value := 0x8001 } }) (fun t =>
      decide (t.link.sdo 0 = some true ∧ t.link.sdo 1 = some false ∧ t.link.sdo 15 = some true ∧
        t.link.sdo 32 = some false) &&
      nextHas (exec .nop t) fun u => decide (u.link.sdo 0 = none)) = true := by decide +kernel

theorem test_cs_n_wait :
    let s := { State.reset with link := { State.reset.link with csAsserted := true, awaitRelease := true } }
    s.link.awaitRelease = true ∧
      nextHas (exec .powerOnCsNRelease s) (fun t => decide (t = State.reset)) = true ∧
      nextHas (exec .drain s) (fun t => decide (t = State.reset)) = true ∧
      nextHas (exec (.frameError 31) s) (fun t => decide (t = State.reset)) = true ∧
      nextHas (exec .powerOnCsNRelease State.reset) (fun t => decide (t = State.reset)) = true := by decide +kernel

theorem test_frame_error :
    nextHas (exec (.frameError 33) State.reset) (fun t => decide (t.link.status = .frameError ∧
      t.link.frameErrors = 1 ∧ t.link.frameCount = 0 ∧ t.traffic.flags = Event.frameError.mask)) = true := by
  decide +kernel

theorem test_unknown :
    (0x43 : BitVec 8) ∉ frameCodes ∧
      nextHas (exec (.unknown 0x43) State.reset) (fun t => decide (t = ends State.reset .unknown 0)) = true := by
  decide +kernel

theorem test_select :
    nameOf (.slot 63) = (4, 63) ∧ nextHas (exec (.selectObject 4 63) State.reset)
      (fun t => decide (t.link.object = .slot 63 ∧ t.link.status = .done)) = true ∧
    nextHas (exec (.selectObject 4 64) State.reset) (fun t => decide (t.link.object = .global ∧
      t.link.status = .invalid)) = true ∧
    nextHas (exec (.selectField 255) State.reset) (fun t => decide (t.link.field = 255)) = true ∧
    nextHas (exec (.selectField 256) State.reset) (fun t => decide (t.link.field = 0 ∧ t.link.status = .invalid)) = true := by
  decide +kernel

theorem test_select_nothing_is_named_six : ∀ o, nameOf o ≠ (6, 0) := by
  intro o; cases o <;> simp [nameOf]

/-- A credit of −14 reads as 0xFFFF and 0xFFF2 (R166); field 255 wraps to 0. -/
theorem test_read :
    let s := { State.reset with traffic := State.reset.traffic.setCredit 3 (-14) }
    nextHas (exec .read (pointed (.zone 3) 0 s)) (fun t => decide (t.link.value = 0xFFFF ∧ t.link.field = 1) &&
      nextHas (exec .read t) fun u => decide (u.link.value = 0xFFF2)) = true ∧
    nextHas (exec .read (pointed (.zone 3) 255 s)) (fun t => decide (t.link.status = .invalid ∧ t.link.field = 0)) = true := by
  decide +kernel

theorem test_read_hypotheses :
    creditOk State.reset.ctl State.reset.traffic ∧ controlOk State.reset.ctl.zones[(0 : ZoneIx)].control ∧
      State.reset.link.object.fieldAt State.reset.link.field ≠ none ∧
      State.reset.ctl.zones[(0 : ZoneIx)].ceiling ≤ 65535 ∧ ObjRef.global.fieldAt 33 = none := by decide +kernel

/-- An offset of −32 and a limit page above 65535 read back under their numbers (section 10.4). -/
theorem test_read_signed_and_split :
    let s := { State.reset with ctl := { ctl0 with
      channels := put ctl0.channels 3 { Channel.powerOn with offset := -32 }
      windows := put ctl0.windows 2 { Window.powerOn with limitPage := 0x5ABCDEF } } }
    nextHas (exec .read (pointed (.channel 3) 2 s)) (fun t => decide (t.link.value = 0xFFE0)) = true ∧
    nextHas (exec .read (pointed (.window 2) 3 s)) (fun t => decide (t.link.value = 0x5AB)) = true ∧
    nextHas (exec .read (pointed (.window 2) 4 s)) (fun t => decide (t.link.value = 0xCDEF)) = true ∧
    channelRecOk s.ctl.channels[(3 : ChanIx)] ∧ monitorOk s.ctl.zones[(0 : ZoneIx)].monitor := by decide +kernel

/-- The catalogue of the statement has as many fields as each class, and the zone's last is memory errors LOW. -/
theorem test_catalogue :
    (catalogue .global).length = 33 ∧ (catalogue (.zone 2)).length = 57 ∧ (catalogue (.slot 2)).length = 17 ∧
      (catalogue .snapshot).length = 18 ∧
      (catalogue (.zone 2))[56]? = some (.zone 2 (.counter .memoryErrors .low)) := by decide +kernel

/-- The checks of a WRITE in their order (R165). -/
theorem test_write_checks :
    nextHas (exec (.write 1) (pointed .global 33 State.reset)) (fun t => decide (t.link.status = .invalid)) = true ∧
    nextHas (exec (.write 1) (pointed .global 0 State.reset)) (fun t => decide (t.link.status = .invalid)) = true ∧
    nextHas (exec (.write 1) (pointed (.window 0) 0 State.reset)) (fun t => decide (t.link.status = .notFrozen)) = true ∧
    nextHas (exec (.write 1) (pointed .global 17 (leased .waiting 0)))
      (fun t => decide (t.link.status = .busy)) = true ∧
    nextHas (exec (.write 256) (pointed (.zone 0) 5 State.reset)) (fun t => decide (t.link.status = .invalid ∧
      t.link.value = 255)) = true ∧
    nextHas (exec (.write 7) (pointed (.zone 0) 5 State.reset)) (fun t => decide (t.link.status = .done ∧
      t.ctl.zones[(0 : ZoneIx)].holdLimit = 7 ∧ t.link.field = 6)) = true := by decide +kernel

theorem test_write_hypotheses :
    takesFrames State.reset ∧ ObjRef.global.fieldAt 33 = none ∧
      (ObjRef.zone 0).fieldAt 5 = some (.zone 0 .holdLimit) ∧ ¬ isReadOnly (.zone 0 .holdLimit) ∧
      ¬ isStructural (.zone 0 .holdLimit) ∧ ¬ isLeaseTerm (.zone 0 .holdLimit) ∧
      fieldTakes State.reset 255 (.zone 0 .holdLimit) ∧ ¬ fieldTakes State.reset 256 (.zone 0 .holdLimit) ∧
      isReadOnly (.global .governorState) ∧ isStructural (.window 0 .enabled) ∧ isLeaseTerm (.global .leaseOpen) := by
  refine ⟨by decide +kernel, by decide +kernel, by decide +kernel, ?_, ?_, ?_, ?_, ?_, ?_, trivial, trivial⟩ <;>
    simp +decide [isReadOnly, isStructural, isLeaseTerm, fieldTakes, zoneTakes, between]

/-- A hysteresis of 31 is stored, and every other field of its zone reads as before. -/
theorem test_plain_write :
    ((State.reset.storeField 31 (.zone 2 .hysteresis)).map fun t =>
      (t.readField (.zone 2 .hysteresis), t.readField (.zone 2 .warnLow), t.readField (.zone 1 .hysteresis))) =
        some (31, 190, 4) ∧ isPlain (.zone 2 .hysteresis) := by
  refine ⟨by decide +kernel, ?_⟩
  simp [isPlain]

/-- A rail filter that runs keeps what is left of it when the field is written (R134), and a window write is plain. -/
theorem test_plain_write_keeps_a_running_filter :
    let s := { State.reset with ctl := { ctl0 with railMode := .auto, railGood := false, railState := .filtering 7 } }
    isPlain (.global .railFilter) ∧ isPlain (.zone 3 .kp) ∧ isPlain (.channel 2 .offset) ∧
    (s.storeField 90 (.global .railFilter)).map (fun t => (t.ctl.railState, t.ctl.railFilter)) =
      some (.filtering 7, 90) := by
  refine ⟨?_, ?_, ?_, ?_⟩
  · simp [isPlain]
  · simp [isPlain]
  · simp [isPlain]
  · decide +kernel

theorem test_named_write_hypotheses :
    namesField (.surgeModeWrite 1) (.global .surgeMode) 1 ∧ takesFrames (pointed .global 14 State.reset) ∧
      (pointed .global 14 State.reset).link.object.fieldAt (pointed .global 14 State.reset).link.field =
        some (.global .surgeMode) ∧
      fieldTakes (pointed .global 14 State.reset) 1 (.global .surgeMode) ∧ ¬ isStructural (.global .surgeMode) := by
  refine ⟨by simp [namesField], by decide +kernel, by decide +kernel, ?_, ?_⟩ <;>
    simp +decide [isStructural, fieldTakes, globalTakes, between]

/-- A named row elsewhere than at its field is the WRITE of the pointed field (log entry 7). -/
theorem test_named_write_follows_the_pointer :
    nextHas (exec (.eventMaskWrite 9) (pointed .global 9 State.reset))
      (fun t => decide (t.ctl.ungovernedLimit = 9 ∧ t.ctl.eventMask = 0)) = true := by decide +kernel

/-- `s` FROZEN, with its pointer at field `n` of `o`. -/
def frozenAt (o : ObjRef) (n : BitVec 8) : State := pointed o n { State.reset with ctl := frozen0 }

theorem test_write_timers :
    pointsAt (pointed .global 7 State.reset) .global 7 ∧
    nextHas (exec (.refillPeriodWrite 1023) (pointed .global 7 State.reset))
      (fun t => decide (t.ctl.refillPeriod = 1023 ∧ t.ctl.refillElapsed = 0)) = true ∧
    nextHas (exec (.refillPeriodWrite 1024) (pointed .global 7 State.reset))
      (fun t => decide (t.ctl.refillPeriod = 10 ∧ t.link.status = .invalid)) = true ∧
    nextHas (exec (.controlDivisorWrite 255) (pointed .global 8 State.reset))
      (fun t => decide (t.ctl.controlDivisor = 255)) = true := by decide +kernel

/-- A raised quota lets the stalled request in (R31). -/
theorem test_write_quota :
    let s := standing (some (readReq 1 0 1)) none (pointed .global 5 { State.reset with
      ctl := { frozen0 with quotas := { a := 1, b := 40 } }, traffic := table [(0, answeringSlot)] })
    pointsAt s .global 5 ∧ s.ctl.governor = .frozen ∧ s.ctl.resetAsserted = false ∧
      nextHas (exec (.quotaWrite 64) s) (fun t => decide (t.traffic.order = [0, 1])) = true := by decide +kernel

theorem test_write_channel_enable :
    pointsAt (frozenAt (.channel 4) 0) (.channel 4) 0 ∧
    nextHas (exec (.channelEnableWrite 1) (frozenAt (.channel 4) 0)) (fun t =>
      decide (t.ctl.channels[(4 : ChanIx)].enabled = true)) = true ∧
    nextHas (exec (.channelEnableWrite 0) (pointed (.channel 2) 0 { sampling with
        ctl := { sampling.ctl with governor := .frozen } })) (fun t =>
      decide (t.ctl.channels[(2 : ChanIx)].enabled = false ∧
        t.ctl.conversion.map (fun v => v.discard) = some true)) = true := by decide +kernel

theorem test_write_scope_and_mask :
    nextHas (exec (.fenceScopeWrite 1) (pointed .global 10 { State.reset with ctl := fence 3 ctl0 }))
      (fun t => t.ctl.fenced 0) = true ∧
    nextHas (exec (.eventMaskWrite 0xFFFF) (pointed .global 23 State.reset))
      (fun t => decide (t.ctl.eventMask = 0xFFFF)) = true := by decide +kernel

/-- A ceiling of 1 brings the credit down to 1. -/
theorem test_write_ceiling :
    pointsAt (pointed (.zone 6) 2 State.reset) (.zone 6) 2 ∧
    nextHas (exec (.ceilingWrite 1) (pointed (.zone 6) 2 State.reset))
      (fun t => decide (t.traffic.credit 6 = 1 ∧ t.traffic.credit 5 = 65535)) = true := by decide +kernel

theorem test_write_sensor :
    nextHas (exec (.sensorWrite 7) (frozenAt (.zone 0) 8))
      (fun t => decide (t.ctl.zones[(0 : ZoneIx)].control.sensor = some 7)) = true ∧
    nextHas (exec (.sensorWrite 8) (pointed (.zone 1) 8 { looping true 0 0 (fun k => { k with
        mode := .openLoop, source := .openLoop }) with ctl := { (looping true 0 0 fun k => { k with
        mode := .openLoop, source := .openLoop }).ctl with governor := .frozen } }))
      (fun t => decide (t.ctl.zones[(1 : ZoneIx)].control.sensor = none)) = true := by decide +kernel

theorem test_write_configured_mode :
    nextHas (exec (.configuredModeWrite 0) (pointed (.zone 1) 9 (looping true 0 0 id)))
      (fun t => decide (t.ctl.zones[(1 : ZoneIx)].control.source = .openLoop ∧
        t.ctl.zones[(1 : ZoneIx)].control.rate = 4095)) = true ∧
    controlOk (looping true 0 0 id).ctl.zones[(1 : ZoneIx)].control ∧
    nextHas (exec (.configuredModeWrite 1) (pointed (.zone 1) 9 State.reset))
      (fun t => decide (t.link.status = .invalid)) = true := by decide +kernel

theorem test_write_rates :
    nextHas (exec (.openRateWrite 4095) (pointed (.zone 1) 10 State.reset))
      (fun t => decide (t.ctl.zones[(1 : ZoneIx)].control.rate = 4095 ∧ t.link.value = 4095)) = true ∧
    nextHas (exec (.fallbackRateWrite 0) (pointed (.zone 1) 11 (leased .violated 0)))
      (fun t => decide (t.ctl.zones[(1 : ZoneIx)].control.fallbackRate = 0)) = true := by decide +kernel

/-- Rate min 100 meets U = 100 · 256; rate max 50 lowers U and the rate (R121). -/
theorem test_write_rate_limits :
    nextHas (exec (.rateMinWrite 101) (pointed (.zone 1) 16 (looping true 0 0 id)))
      (fun t => decide (t.ctl.zones[(1 : ZoneIx)].control.u = 25856 ∧
        t.ctl.zones[(1 : ZoneIx)].control.rate = 101)) = true ∧
    nextHas (exec (.rateMaxWrite 50) (pointed (.zone 1) 17 (looping true 0 0 id)))
      (fun t => decide (t.ctl.zones[(1 : ZoneIx)].control.u = 12800 ∧
        t.ctl.zones[(1 : ZoneIx)].control.rate = 50)) = true := by decide +kernel

/-- A TRIPPED WARN zone that becomes CYCLE fences, and OFF clears it. -/
theorem test_write_monitor_mode :
    let s := pointed (.zone 1) 32 { State.reset with
      ctl := onMonitor 1 (fun m => { m with mode := .warn, tripped := true }) ctl0 }
    nextHas (exec (.monitorModeWrite 2) s) (fun t => t.ctl.fenced 1 && decide (t.ctl.fenced 0 = false)) = true ∧
    nextHas (exec (.monitorModeWrite 0) s) (fun t =>
      decide (t.ctl.zones[(1 : ZoneIx)].monitor.tripped = false)) = true ∧
    nextHas (exec (.monitorModeWrite 4) s) (fun t =>
      decide (t.link.status = .invalid ∧ t.link.value = 1 ∧ t.ctl = s.ctl)) = true := by decide +kernel

theorem test_write_rail_and_surge_mode :
    nextHas (exec (.railModeWrite 1) (pointed .global 11 { State.reset with ctl := { ctl0 with railGood := false } }))
      (fun t => decide (t.ctl.railState = .filtering 20)) = true ∧
    nextHas (exec (.railModeWrite 1) (pointed .global 11 { State.reset with
        ctl := { ctl0 with railMode := .latched, railState := .recoveredLatched } }))
      (fun t => decide (t.ctl.railState = .good ∧ t.traffic.flags = Event.railReturn.mask)) = true ∧
    nextHas (exec (.surgeModeWrite 2) (pointed .global 14 { State.reset with ctl := { ctl0 with surgeAsserted := true } }))
      (fun t => decide (t.ctl.surgeState = .tripped ∧ t.traffic.flags = Event.surge.mask)) = true ∧
    nextHas (exec (.surgeModeWrite 3) (pointed .global 14 State.reset))
      (fun t => decide (t.link.status = .invalid)) = true := by decide +kernel

theorem test_write_indicator_source :
    pointsAt (pointed .global 25 State.reset) .global 25 ∧ IndicatorSource.occupancy.code = 24 ∧
    nextHas (exec (.indicatorSourceWrite 24) (pointed .global 25 State.reset))
      (fun t => decide (t.ctl.indicator = { source := .occupancy, blanking := 2, duty := .low })) = true ∧
    nextHas (exec (.indicatorSourceWrite 7) (pointed .global 25 State.reset))
      (fun t => decide (t.link.status = .invalid)) = true := by decide +kernel

theorem test_no_source_has_code_7 : ∀ x : IndicatorSource, x.code ≠ 7 := by
  intro x
  cases x with
  | zoneRate z => revert z; decide +kernel
  | zoneTemp z => revert z; decide +kernel
  | off => decide +kernel
  | occupancy => decide +kernel

theorem test_repetition_period :
    nextHas (exec .repetitionPeriodStart { State.reset with ctl := { ctl0 with
        indicator := { source := .zoneRate 2, blanking := 0, duty := .low } } })
      (fun t => decide (t.ctl.indicator.duty = { num := 4095, den := 4095 })) = true ∧
    nextHas (exec .repetitionPeriodStart { State.reset with ctl := { ctl0 with
        indicator := { source := .zoneRate 2, blanking := 1, duty := .low } } })
      (fun t => decide (t.ctl.indicator.duty = .low)) = true := by decide +kernel

/-! ### CLEAR, counters, events -/

/-- Zone 1 has a releasable trip, zone 2 one that stays; rail LOST; surge TRIPPED and deasserted; lease VIOLATED. -/
def alarmed : State :=
  let c : Ctl := { fence 2 ctl0 with
    channels := put ctl0.channels 3 { Channel.powerOn with enabled := true, lastSample := 205, lastValid := true }
    railMode := .auto
    railGood := false
    railState := .lost
    surgeMode := .latched
    surgeState := .tripped
    lease := { ctl0.lease with state := .violated, kind := .late } }
  let d := onMonitor 1 (fun m => { m with mode := .latched, tripped := true, overRun := 8 }) c
  { State.reset with ctl := onControl 1 (fun k => { k with sensor := some 3 }) d }

/-- 205 is below 210 − 4: zone 1 is released; zone 2 and the rail remain. -/
theorem test_clear :
    clearReleases alarmed.ctl 1 ∧ ¬ clearReleases alarmed.ctl 2 ∧
    nextHas (exec (.clear 15) alarmed) (fun t => decide (t.link.status = .conditionPresent ∧ t.link.value = 3 ∧
      t.ctl.fenced 1 = false ∧ t.ctl.fenced 2 = true ∧ t.ctl.surgeState = .armed ∧ t.ctl.lease.state = .stopped)) = true ∧
    nextHas (exec (.clear 16) alarmed) (fun t => decide (t.link.status = .invalid ∧ t.ctl = alarmed.ctl)) = true ∧
    nextHas (exec (.clear 0) alarmed) (fun t => decide (t.link.status = .done ∧ t.ctl = alarmed.ctl)) = true := by
  have hs : alarmed.ctl.zones[(2 : ZoneIx)].control.sensor = none := by decide +kernel
  refine ⟨⟨by decide +kernel, 3, by decide +kernel, by decide +kernel, by decide +kernel⟩, ?_, ?_, ?_, ?_⟩
  · rintro ⟨_, ch, h, _⟩
    rw [hs] at h
    cases h
  all_goals decide +kernel

theorem test_clear_parts :
    nextHas (exec .clearFences alarmed) (fun t => decide (t.link.value = 1)) = true ∧
    nextHas (exec .clearRail alarmed) (fun t => decide (t.link.value = 2)) = true ∧
    nextHas (exec .clearSurge alarmed) (fun t => decide (t.link.status = .done)) = true ∧
    nextHas (exec .clearLease alarmed) (fun t => decide (t.ctl.lease.kind = .none)) = true ∧
    nextHas (exec .clearRail { State.reset with
        ctl := { ctl0 with railMode := .latched, railState := .recoveredLatched } })
      (fun t => decide (t.ctl.railState = .good ∧ t.traffic.flags = Event.railReturn.mask)) = true := by decide +kernel

/-- `reset` with counts and flags. -/
def counting : State :=
  { State.reset with traffic := { (Traffic.powerOn.count (some 7) ZoneCounters.held) with flags := 0x8001 } }

theorem test_snapshot :
    nextHas (exec (.snapshot 7 1) counting) (fun t => decide (t.ctl.snapshot.zone = some 7 ∧
      t.ctl.snapshot.counters.heldRequests = 1 ∧ (t.traffic.account 7).counters.heldRequests = 0)) = true ∧
    nextHas (exec (.snapshot 8 0) counting) (fun t => decide (t.link.status = .invalid)) = true ∧
    nextHas (exec (.snapshot 7 2) counting) (fun t => decide (t.link.status = .invalid ∧
      t.traffic = counting.traffic)) = true := by decide +kernel

theorem test_read_events :
    nextHas (exec .readEvents counting) (fun t => decide (t.link.value = 0x8001 ∧ t.traffic.flags = 0)) = true := by
  decide +kernel

/-! ### The hypotheses of the invariants -/

/-- A machine in the middle of its work: slot 0's response is on the channel, slot 1 waits for credit, slot 2 behind it
for its turn, slot 3 is answered. -/
def lively : State :=
  machine ctl0 (({ table [(0, { base with state := .forwarded true }), (1, { heldFor budget 3 with cost := 4, id := 2 }),
      (2, { heldFor { noReasons with order := true } 3 with zone := some 1, id := 2 }),
      (3, { answeringSlot with port := .b })] with
    memChannel := some { resp := { did := 0, status := .okay, data := [7] }, slot := 0 } }).setCredit 0 3)

theorem test_lively_path :
    pathOk lively.ctl lively.traffic ∧ globalsOk lively.ctl ∧ promptOk lively.ctl lively.traffic ∧
      creditOk lively.ctl lively.traffic ∧ settled lively := by
  refine ⟨⟨?_, ?_, ?_, ?_, ?_, ?_, ?_, ?_, ?_⟩, ?_, ⟨?_, ?_, ?_, ?_, ?_⟩, ?_, ?_⟩ <;> decide +kernel

/-- A refill tick at a rate of 4095 pays slot 1, which releases it and then slot 2. -/
theorem test_lively_step :
    nextHas (step { lively with pending := [.refillTick] })
      (fun t => decide (t.traffic.ready = [1, 2] ∧ t.traffic.memOffer = some 1)) = true := by decide +kernel

theorem test_control_hypotheses :
    globalsOk sampling.ctl ∧ timersOk sampling.ctl ∧ (∀ w : WinIx, windowOk sampling.ctl.windows[w]) ∧
      (∀ z : ZoneIx, settingsOk sampling.ctl.zones[z]) ∧ (∀ z : ZoneIx, controlOk sampling.ctl.zones[z].control) ∧
      (∀ z : ZoneIx, monitorOk sampling.ctl.zones[z].monitor) := by
  refine ⟨?_, ?_, ?_, ?_, ?_, ?_⟩ <;> decide +kernel

theorem test_control_hypotheses_more :
    (∀ z : ZoneIx, averageOk sampling.ctl.zones[z]) ∧ (∀ ch : ChanIx, channelRecOk sampling.ctl.channels[ch]) ∧
      conversionOk sampling.ctl ∧ railOk sampling.ctl ∧ surgeOk sampling.ctl ∧ leaseOk sampling.ctl ∧
      indicatorOk sampling.ctl ∧ linkOk sampling.link := by
  refine ⟨?_, ?_, ?_, ?_, ?_, ?_, ?_, ?_⟩ <;> decide +kernel

/-- Slot 0 is delivered: FREE; slot 1 stays as it is. -/
theorem test_slots_step_forward :
    (lively.traffic.slot 1).state ≠ .free ∧ tableOk lively.traffic ∧
      nextHas (exec (.delivery .a) lively) (fun t => decide ((t.traffic.slot 0).state = .free ∧
        t.traffic.slot 1 = lively.traffic.slot 1)) = true := by decide +kernel

theorem test_flags_stay :
    counting.traffic.flags.getLsbD 15 = true ∧
      nextHas (exec (.frameError 1) counting) (fun t => decide (t.traffic.flags = 0xC001)) = true := by decide +kernel

theorem test_frame_hypotheses :
    isFrame .nop = true ∧ Instr.wellFormed .nop = true ∧ takesFrames State.reset ∧ isFrame (.unknown 0x01) = true ∧
      isFrame (.write 0) = true ∧ isFrame .csNAssert = false := by decide +kernel

/-- DRAIN repeated, and RESUME in RUN (R150, R152). -/
theorem test_drain_again :
    nextHas (exec .drain { State.reset with ctl := frozen0 }) (fun t => decide (t.link.value = 2 ∧ t.ctl = frozen0)) = true ∧
    nextHas (exec .drain { State.reset with ctl := { ctl0 with governor := .draining } })
      (fun t => decide (t.link.value = 1 ∧ t.ctl.governor = .draining)) = true ∧
    nextHas (exec .resume State.reset) (fun t => decide (t = ends State.reset .done 0)) = true := by decide +kernel

/-- Blanking 2 falls to 1 with INDICATE still low (R175). -/
theorem test_control_tick_blanking_two :
    nextHas (exec .controlTick { State.reset with ctl := { ctl0 with
        indicator := { source := .occupancy, blanking := 2, duty := .low } } })
      (fun t => decide (t.ctl.indicator = { source := .occupancy, blanking := 1, duty := .low })) = true := by
  decide +kernel

/-- No arbiter offers anything while RESET_N is asserted (R43). -/
theorem test_response_offer_under_reset :
    let s := { State.reset with traffic := contended, ctl := { ctl0 with resetAsserted := true } }
    s.ctl.resetAsserted = true ∧ nextHas (exec (.responseOffer .a) s) (fun t => decide (t = s)) = true := by decide +kernel

end Sys2Proof.Tests
end

/-! PROOF. The age tick (Chapter 5): ageing keeps reasons, keys and the kind of every slot state, so on a path whose
reasons stand the sweep and the event's end find nothing to do. -/

namespace Sys2Proof.Ageing

open Sys2Proof.Machine Sys2Proof.Safety Sys2Proof.Claims

/-! ### Ageing one slot (R76) -/

/-- The model's ageing of a slot is the one of the statements. -/
theorem grow_eq_agedSlot (s : Slot) : s.grow = agedSlot s := by
  unfold Slot.grow agedSlot
  cases hs : s.state with
  | held r age =>
    have hcap : min 255 (age + 1) = if age < 255 then age + 1 else 255 := by split <;> omega
    cases hf : r.freeze <;> simp [hf, hcap, ← hs]
  | free | ready | forwarded _ | answering _ => rfl

/-- All that ageing can do: nothing to a slot that is not HELD, and to a HELD one a change of its age. -/
theorem grow_cases (s : Slot) :
    (s.state.isHeld = false ∧ s.grow = s) ∨
      ∃ r age age', s.state = .held r age ∧ s.grow = { s with state := .held r age' } := by
  rw [grow_eq_agedSlot, agedSlot]
  cases hs : s.state with
  | held r age => exact .inr ⟨r, age, _, rfl, rfl⟩
  | free | ready | forwarded _ | answering _ => exact .inl ⟨rfl, rfl⟩

/-- Ageing changes no more of a slot than its state. -/
theorem grow_eq (s : Slot) : s.grow = { s with state := s.grow.state } := by
  obtain ⟨-, h⟩ | ⟨r, age, age', -, h⟩ := grow_cases s <;> rw [h]

@[simp] theorem grow_key (s : Slot) : s.grow.key = s.key := by rw [grow_eq]; rfl

@[simp] theorem grow_isHeld (s : Slot) : s.grow.state.isHeld = s.state.isHeld := by
  obtain ⟨-, h⟩ | ⟨r, age, age', hs, h⟩ := grow_cases s <;> simp [*, SlotState.isHeld]

@[simp] theorem grow_isReady (s : Slot) : s.grow.state.isReady = s.state.isReady := by
  obtain ⟨-, h⟩ | ⟨r, age, age', hs, h⟩ := grow_cases s <;> simp [*, SlotState.isReady]

/-- Ageing answers no slot and takes back no answer. -/
theorem grow_answering_iff (s : Slot) (a : AnswerStatus) :
    s.grow.state = .answering a ↔ s.state = .answering a := by
  obtain ⟨-, h⟩ | ⟨r, age, age', hs, h⟩ := grow_cases s <;> simp [*]

/-- A slot HELD after ageing was HELD before, for the same reasons. -/
theorem held_of_grow_held {s : Slot} {r : Reasons} {age : Nat} (h : s.grow.state = .held r age) :
    ∃ age', s.state = .held r age' := by
  obtain ⟨-, hg⟩ | ⟨r', age', _, hs, hg⟩ := grow_cases s
  · exact ⟨age, by rw [← hg, h]⟩
  · rw [hg] at h
    cases h
    exact ⟨age', hs⟩

/-! ### The expiring slots and the zones of the attempts (R79, R83) -/

/-- The model's expiring slots are the due ones in acceptance order. -/
theorem expiring_eq (c : Ctl) (t : Traffic) :
    t.expiring c = t.order.filter fun i => dueToExpire c (t.slot i) := by
  have hlimit : c.limitOf = limitFor c := by funext z; cases z <;> rfl
  refine List.filter_congr fun i _ => ?_
  cases hs : (t.slot i).state <;> simp [dueToExpire, hs, hlimit]

/-- The path after an age tick, in its three parts: ageing, turns, attempts. -/
theorem age_eq (c : Ctl) (t : Traffic) :
    let g := t.mapSlots Slot.grow
    let due := g.order.filter fun i => dueToExpire c (g.slot i)
    let w := due.foldl (Traffic.turn c) g
    t.age c = w.payAttempts ((List.finRange 8).filter fun z =>
      due.any fun i => decide ((w.slot i).zone = some z) && ((w.slot i).forced || (w.slot i).state.isAnswering)) := by
  intro g due w
  have hdue : g.expiring c = due := expiring_eq c g
  simp only [Traffic.age, Traffic.zonesOf, Traffic.wasTaken]
  rw [hdue]

/-! ### A sweep that finds nothing to do -/

/-- Writing back the record that a slot holds changes nothing. -/
theorem setSlot_slot (t : Traffic) (i : SlotIx) : t.setSlot i (t.slot i) = t := by
  rw [Traffic.setSlot, Traffic.slot, put_get]

/-- A sweep leaves the path as it is where every HELD slot has a reason, and one with ORDER stands behind a HELD slot of
its key, be it among the slots passed (`ks`) or earlier in the list (R12, R17). -/
theorem sweepFrom_of_reasons_stand {t : Traffic} (is : List SlotIx) (ks : List Key)
    (h : ∀ before i after r age, is = before ++ i :: after → (t.slot i).state = .held r age →
      r.isEmpty = false ∧ (r.order = true → (t.slot i).key ∈ ks ∨
        ∃ j ∈ before, (t.slot j).state.isHeld = true ∧ (t.slot j).key = (t.slot i).key)) :
    Traffic.sweepFrom is ks t = t := by
  induction is generalizing ks with
  | nil => rfl
  | cons k is ih =>
    -- what is asked of the rest, once the keys passed include that of `k` where it is HELD
    have hrest : ∀ ks', (∀ x ∈ ks, x ∈ ks') → ((t.slot k).state.isHeld = true → (t.slot k).key ∈ ks') →
        Traffic.sweepFrom is ks' t = t := by
      intro ks' hsub hk
      refine ih ks' fun before i after r age his hi => ?_
      obtain ⟨hne, hord⟩ := h (k :: before) i after r age (by rw [his]; rfl) hi
      refine ⟨hne, fun ho => ?_⟩
      rcases hord ho with hmem | ⟨j, hj, hheld, hkey⟩
      · exact .inl (hsub _ hmem)
      · rcases List.mem_cons.1 hj with rfl | hj
        · exact .inl (hkey ▸ hk hheld)
        · exact .inr ⟨j, hj, hheld, hkey⟩
    cases hs : (t.slot k).state with
    | held r age =>
      obtain ⟨hne, hord⟩ := h [] k is r age rfl hs
      have hkeeps : (r.order && ks.contains (t.slot k).key) = r.order := by
        cases ho : r.order with
        | false => rfl
        | true => simpa using hord ho
      have hsame : { t.slot k with state := .held r age } = t.slot k := by rw [← hs]
      simp only [Traffic.sweepFrom, hs, hkeeps, hne, hsame, setSlot_slot]
      exact hrest _ (fun x hx => List.mem_cons_of_mem _ hx) fun _ => List.mem_cons_self
    | free | ready | forwarded _ | answering _ =>
      simp only [Traffic.sweepFrom, hs]
      exact hrest ks (fun _ hx => hx) (by simp [hs, SlotState.isHeld])

/-- An older HELD slot of slot `i`'s key stands before `i` in the acceptance order (R17). -/
theorem exists_before_of_olderHeld {t : Traffic} {i : SlotIx} {before after : List SlotIx}
    (ho : t.order = before ++ i :: after) (h : olderHeld t i = true) :
    ∃ j ∈ before, (t.slot j).state.isHeld = true ∧ (t.slot j).key = (t.slot i).key := by
  obtain ⟨j, hj, hp⟩ := List.any_eq_true.1 h
  obtain ⟨hheld, hkey⟩ := Bool.and_eq_true_iff.1 hp
  refine ⟨j, ?_, hheld, of_decide_eq_true hkey⟩
  rw [older, ho, List.takeWhile_append] at hj
  split at hj
  · simpa using hj
  · exact (List.takeWhile_prefix _).subset hj

/-- On a path whose reasons stand, ageing gives the sweep nothing to do: no reason and no key changed. -/
theorem sweep_aged {c : Ctl} {t : Traffic} (h : holdsOk c t) :
    (t.mapSlots Slot.grow).sweep = t.mapSlots Slot.grow := by
  refine sweepFrom_of_reasons_stand _ _ fun before i after r age ho hi => ?_
  rw [Traffic.slot_mapSlots] at hi
  obtain ⟨age', hs⟩ := held_of_grow_held hi
  obtain ⟨hwait, -, -⟩ := h i
  obtain ⟨⟨hne, -, hord, -⟩, -⟩ := hwait (r, age') (by simp [waitOf, hs])
  refine ⟨hne, fun hr => .inr ?_⟩
  obtain ⟨j, hj, hheld, hkey⟩ := exists_before_of_olderHeld (t := t) ho (hord.symm.trans hr)
  exact ⟨j, hj, by simpa [Traffic.slot_mapSlots] using hheld, by simpa [Traffic.slot_mapSlots] using hkey⟩

/-! ### The end of a tick that only ages -/

/-- The arbiters choose the same answers before and after ageing (R92). -/
theorem choice_aged (t : Traffic) (p : Port) : (t.mapSlots Slot.grow).choice p = t.choice p := by
  refine Traffic.choice_congr p rfl rfl fun i => ?_
  rw [Traffic.slot_mapSlots, grow_eq]
  exact ⟨rfl, rfl, rfl, rfl, grow_answering_iff _⟩

/-- In a settled state ageing alone leaves the event's end nothing to do: no slot became READY, no beats came free, and
the ports choose as before. -/
theorem onPath_aged {s : State} (h : settled s) :
    s.onPath (s.traffic.mapSlots Slot.grow) = { s with traffic := s.traffic.mapSlots Slot.grow } := by
  obtain ⟨⟨-, hready⟩, hmem, hrespA, hrespB⟩ := h
  rw [State.onPath, Traffic.settle_of_quiet]
  · intro i _ hi
    rw [Traffic.slot_mapSlots, grow_isReady] at hi
    exact (hready i).2 hi
  · exact Nat.le_refl _
  · intro hnone
    have hnone' : s.traffic.memOffer = none := hnone
    by_cases hempty : s.traffic.ready = []
    · exact .inl hempty
    · cases hrail : s.ctl.railActive with
      | true => exact .inr (.inl rfl)
      | false =>
        have hreset : s.ctl.resetAsserted = true := by
          simpa only [offersMemory, hnone', hrail, Option.isSome_none, List.isEmpty_eq_false_iff.2 hempty,
            Bool.not_false, Bool.true_and, Bool.false_eq, Bool.not_eq_false'] using hmem
        exact .inr (.inr hreset)
  · intro p hnone
    rw [choice_aged]
    cases p with
    | a => exact hrespA hnone
    | b => exact hrespB hnone

/-- AGE_TICK is one event of the transaction path. -/
theorem exec_ageTick (s : State) : exec .ageTick s = .next (s.onPath (s.traffic.age s.ctl)) := rfl

/-- An age tick in which no slot is due does nothing but age (R76). -/
theorem ageTick_quiet {s : State} (hpath : pathOk s.ctl s.traffic) (hset : settled s)
    (hdue : ∀ i, dueToExpire s.ctl ((s.traffic.mapSlots Slot.grow).slot i) = false) :
    exec .ageTick s = .next { s with traffic := s.traffic.mapSlots Slot.grow } := by
  obtain ⟨-, hholds, -⟩ := hpath
  have hage : s.traffic.age s.ctl = s.traffic.mapSlots Slot.grow := by
    have hnone : ((s.traffic.mapSlots Slot.grow).order.filter fun i =>
        dueToExpire s.ctl ((s.traffic.mapSlots Slot.grow).slot i)) = [] :=
      List.filter_eq_nil_iff.2 fun i _ => by rw [hdue i]; exact Bool.false_ne_true
    have hzones : ((List.finRange 8).filter fun _ => false) = [] := rfl
    simp only [age_eq, hnone, List.foldl_nil, List.any_nil, hzones, Traffic.payAttempts]
    exact sweep_aged hholds
  rw [exec_ageTick, hage, onPath_aged hset]

/-- Settles O23: the model's age tick has the parts the statement lists, and without expiries its sweep and its end find
nothing to do. -/
theorem ageTickTakesTheExpiries : Obligations.AgeTickTakesTheExpiries := by
  unfold Obligations.AgeTickTakesTheExpiries
  intro s
  refine ⟨s.traffic.mapSlots Slot.grow, _, rfl, fun i => ?_, rfl, ?_, ageTick_quiet⟩
  · rw [Traffic.slot_mapSlots, grow_eq_agedSlot]
  · rw [exec_ageTick, age_eq]

end Sys2Proof.Ageing

/-! PROOF. The scanner (R106 to R109): the search for the next due channel starts the conversion that the statements
ask for, and a sample reaches its channel and every zone that names it. -/

namespace Sys2Proof.Sampling

open Sys2Proof.Machine Sys2Proof.Safety Sys2Proof.Claims

/-! ### Flags raised on a condition -/

/-- Raising a flag on a condition changes the flags alone (R168). -/
theorem raiseIf_eq (b : Bool) (e : Event) (t : Traffic) :
    t.raiseIf b e = { t with flags := flagsWith b e t.flags } := by cases b <;> rfl

/-- Some zone passes between the two control sides as `p` says. -/
theorem someZone_iff (c0 c1 : Ctl) (p : ZoneRec → ZoneRec → Bool) :
    Ctl.someZone c0 c1 p = true ↔ ∃ z : ZoneIx, p c0.zones[z] c1.zones[z] = true := by
  simp [Ctl.someZone]

/-! ### The search for the next channel (R106, R107) -/

theorem due_iff_dueIn (c : Ctl) (ch : ChanIx) : c.due ch = true ↔ dueIn c c.scanRound ch := by
  simp [Ctl.due, dueIn]

theorem due_eq_false_iff (c : Ctl) (ch : ChanIx) : c.due ch = false ↔ ¬ dueIn c c.scanRound ch := by
  rw [← due_iff_dueIn, Bool.not_eq_true]

/-- The search starts the conversion of the lowest due channel at or above `low`, and none where none is due. -/
theorem picks_nextDue (c : Ctl) (low : Nat) : picks c c.scanRound low ((c.nextDue low).map c.startOf) := by
  cases hfound : c.nextDue low with
  | none =>
    have hnone : ∀ n : ChanIx, low ≤ n.val → ¬ dueIn c c.scanRound n := fun n hn =>
      (due_eq_false_iff c n).1 (c.nextDue_eq_none.1 hfound n hn)
    exact ⟨fun n hn hdue _ => absurd hdue (hnone n hn), fun _ => rfl⟩
  | some m =>
    obtain ⟨hm, hdue, hfirst⟩ := c.nextDue_eq_some hfound
    have hdueIn := (due_iff_dueIn c m).1 hdue
    refine ⟨fun n hn hdn hlowest => ?_, fun hnone => absurd hdueIn (hnone m hm)⟩
    have hnm : n = m := by
      rcases Nat.lt_trichotomy n.val m.val with hlt | heq | hgt
      · exact absurd hdn ((due_eq_false_iff c n).1 (hfirst n hn hlt))
      · exact Fin.ext heq
      · exact absurd hdueIn (hlowest m hm hgt)
    rw [hnm]
    rfl

/-- The next round counts on and starts with its lowest due channel. -/
theorem nextRound_picks (c : Ctl) : ∃ n, picks c (c.scanRound + 1) 0 n ∧
    c.nextRound = { c with scanRound := c.scanRound + 1, conversion := n } :=
  ⟨_, picks_nextDue { c with scanRound := c.scanRound + 1 } 0, rfl⟩

/-- After a conversion the scanner goes on in the round or to the next one, as the statements say. -/
theorem afterConversion_scansOn (c : Ctl) (ch : ChanIx) : ∃ r n, scansOn c ch r n ∧
    c.afterConversion ch = { c with scanRound := r, conversion := n } := by
  cases hfound : c.nextDue (ch.val + 1) with
  | some m =>
    obtain ⟨hm, hdue, -⟩ := c.nextDue_eq_some hfound
    have hpick := picks_nextDue c (ch.val + 1)
    rw [hfound] at hpick
    refine ⟨c.scanRound, some (c.startOf m), ⟨fun _ => ⟨rfl, hpick⟩, fun hnone => ?_⟩, ?_⟩
    · exact absurd ((due_iff_dueIn c m).1 hdue) (hnone m hm)
    · rw [Ctl.afterConversion, hfound]
  | none =>
    obtain ⟨n, hpick, hnext⟩ := nextRound_picks c
    refine ⟨c.scanRound + 1, n, ⟨fun ⟨m, hm, hdue⟩ => ?_, fun _ => ⟨rfl, hpick⟩⟩, ?_⟩
    · exact absurd hdue ((due_eq_false_iff c m).1 (c.nextDue_eq_none.1 hfound m hm))
    · rw [Ctl.afterConversion, hfound, ← hnext]

/-- A change of a channel's record that keeps its settings: enabled, divisor and offset (R104). -/
def keepsSettings (f : Channel → Channel) : Prop :=
  ∀ x, (f x).enabled = x.enabled ∧ (f x).divisor = x.divisor ∧ (f x).offset = x.offset

theorem gave_keepsSettings (x : Int) : keepsSettings (Channel.gave x) := fun _ => ⟨rfl, rfl, rfl⟩

theorem failed_keepsSettings : keepsSettings Channel.failed := fun _ => ⟨rfl, rfl, rfl⟩

/-- The scanner looks at the round and the channels' settings alone. -/
theorem scansOn_adjust {c d : Ctl} {k : ChanIx} {f : Channel → Channel} (hf : keepsSettings f)
    (hround : d.scanRound = c.scanRound) (hchannels : d.channels = adjust c.channels k f) :
    scansOn d = scansOn c := by
  have hsettings : ∀ n : ChanIx, d.channels[n].enabled = c.channels[n].enabled ∧
      d.channels[n].divisor = c.channels[n].divisor ∧ d.channels[n].offset = c.channels[n].offset := fun n => by
    rw [hchannels, get_adjust]
    split
    · exact hf _
    · exact ⟨rfl, rfl, rfl⟩
  have hdue : dueIn d = dueIn c := by
    funext r n
    obtain ⟨henabled, hdivisor, -⟩ := hsettings n
    rw [dueIn, dueIn, henabled, hdivisor]
  have hpicks : picks d = picks c := by
    funext r low v
    simp only [picks, hdue, (hsettings _).2.2]
  funext ch r v
  rw [scansOn, scansOn, hround, hdue, hpicks]

/-- The scanner goes on from a control side in which the record of channel `k` has changed as if it had not. -/
theorem afterConversion_scansOn_adjust (c d : Ctl) (ch k : ChanIx) {f : Channel → Channel} (hf : keepsSettings f)
    (hround : d.scanRound = c.scanRound) (hchannels : d.channels = adjust c.channels k f) :
    ∃ r n, scansOn c ch r n ∧ d.afterConversion ch = { d with scanRound := r, conversion := n } :=
  scansOn_adjust hf hround hchannels ▸ afterConversion_scansOn d ch

/-! ### A sample reaches a zone (R108, R112, R126 to R128) -/

theorem clamp_eq_halfDegrees (x : Int) : clamp (-128) 383 x = halfDegrees x := clamp_eq (by decide)

theorem sampleOf_eq (raw offset : Int) : sampleOf raw offset = halfDegrees (halfDegrees raw + offset) := by
  simp only [sampleOf, clamp_eq_halfDegrees]

/-- The model's warn level is the entry of R127's table in the column that the sample decides. -/
theorem levelAfter_eq (m : Monitor) (x : Int) : m.levelAfter x = warnTable m.warnLevel (warnColumn m x) := by
  simp only [Monitor.levelAfter, warnColumn, ge_iff_le]
  split
  · cases m.warnLevel <;> rfl
  · split
    · cases m.warnLevel <;> rfl
    · split
      · cases m.warnLevel <;> rfl
      · split <;> cases m.warnLevel <;> rfl

/-- A monitor that is not OFF takes the warn level, the over-run and the trip of the statements. -/
theorem sample_eq (m : Monitor) (x : Int) : m.sample x = if m.mode = .off then m else monitorAfter m x := by
  have htrip : (m.tripped || decide (m.deglitch ≤ m.overRunAfter x)) =
      if m.deglitch ≤ m.overRunAfter x then true else m.tripped := by split <;> simp [*]
  have hafter : monitorAfter m x = { m with
      warnLevel := m.levelAfter x
      overRun := m.overRunAfter x
      tripped := m.tripped || decide (m.deglitch ≤ m.overRunAfter x) } := by
    rw [htrip, levelAfter_eq]
    rfl
  rw [hafter, Monitor.sample]
  cases m.mode <;> rfl

theorem takeSample_eq (ch : ChanIx) (x : Int) (z : ZoneRec) : z.takeSample ch x = sampledZone ch x z := by
  rw [ZoneRec.takeSample, sampledZone, sample_eq]
  rfl

/-- The warn level rises in rank exactly where it rises as R127 says. -/
theorem rank_lt_iff (a b : WarnLevel) : a.rank < b.rank ↔ warnRises a b := by
  cases a <;> cases b <;> simp [WarnLevel.rank, warnRises]

/-! ### The commands of the scanner -/

/-- Without a conversion there is nothing to complete. -/
theorem exec_conversionCompletion_idle (raw : Int) {s : State} (h : s.ctl.conversion = none) :
    exec (.conversionCompletion raw) s = .next s := by
  change execConversionCompletion raw s = _
  rw [execConversionCompletion, h]

/-- A discarded result only lets the scanner go on (R107). -/
theorem exec_conversionCompletion_discarded (raw : Int) {s : State} {v : Conversion} (h : s.ctl.conversion = some v)
    (hd : v.discard = true) :
    exec (.conversionCompletion raw) s = .next { s with ctl := s.ctl.afterConversion v.channel } := by
  change execConversionCompletion raw s = _
  simp only [execConversionCompletion, h, hd, if_true]

/-- A result that is kept raises the flags of the zones that rise or trip, and the table follows the new control side
(R108). -/
theorem exec_conversionCompletion_kept (raw : Int) {s : State} {v : Conversion} {c : Ctl}
    (h : s.ctl.conversion = some v) (hd : v.discard = false)
    (hc : s.ctl.sampled v.channel (halfDegrees (halfDegrees raw + v.offset)) = c) :
    exec (.conversionCompletion raw) s = .next (({ s with
      traffic := { s.traffic with
        flags := flagsWith (Ctl.someZone s.ctl c fun a b => !a.monitor.tripped && b.monitor.tripped) .zoneShutdown
          (flagsWith (Ctl.someZone s.ctl c fun a b =>
            decide (a.monitor.warnLevel.rank < b.monitor.warnLevel.rank)) .zoneWarn s.traffic.flags) } } :
              State).control (c.afterConversion v.channel)) := by
  change execConversionCompletion raw s = _
  simp only [execConversionCompletion, h, hd, Bool.false_eq_true, if_false, sampleOf_eq, hc, State.raiseIf, raiseIf_eq]

/-- The channels after a sample (R108). -/
theorem sampled_channel (c : Ctl) (ch k : ChanIx) (x : Int) : (c.sampled ch x).channels[k] =
    if k = ch then { c.channels[k] with lastSample := x, lastValid := true, fault := false } else c.channels[k] := by
  have hget : (c.sampled ch x).channels[k] = if ch = k then (c.channels[k]).gave x else c.channels[k] :=
    get_adjust _ _ _ _
  rw [hget, Channel.gave]
  simp only [eq_comm]

/-- Every zone after a sample (R108). -/
theorem sampled_zone (c : Ctl) (ch : ChanIx) (x : Int) (z : ZoneIx) :
    (c.sampled ch x).zones[z] = sampledZone ch x c.zones[z] := by
  rw [Ctl.sampled, Ctl.zones_mapZones, takeSample_eq]

/-- Settles O27: the scanner goes on as `afterConversion_scansOn` says, and the sample reaches its channel and its
zones. -/
theorem conversionDeliversItsSample : Obligations.ConversionDeliversItsSample := by
  unfold Obligations.ConversionDeliversItsSample
  intro raw s
  refine ⟨exec_conversionCompletion_idle raw, fun v hv hd => ?_, fun v hv hd => ?_⟩
  · obtain ⟨r, n, hscan, hafter⟩ := afterConversion_scansOn s.ctl v.channel
    exact ⟨r, n, hscan, by rw [exec_conversionCompletion_discarded raw hv hd, hafter]⟩
  · intro x
    obtain ⟨r, n, hscan, hafter⟩ := afterConversion_scansOn_adjust s.ctl (s.ctl.sampled v.channel x)
      v.channel v.channel (gave_keepsSettings x) rfl rfl
    have hexec := exec_conversionCompletion_kept raw hv hd (c := s.ctl.sampled v.channel x) rfl
    rw [hafter] at hexec
    refine ⟨r, n, { s.ctl.sampled v.channel x with scanRound := r, conversion := n }, _, _, hscan, rfl,
      fun k => sampled_channel _ _ _ _, fun z => sampled_zone _ _ _ _, ?_, ?_, hexec⟩
    · simp only [someZone_iff, decide_eq_true_eq, rank_lt_iff]
    · simp only [someZone_iff, Bool.and_eq_true, Bool.not_eq_true']

/-- Without a conversion there is none to find a fault. -/
theorem exec_conversionFault_idle {s : State} (h : s.ctl.conversion = none) : exec .conversionFault s = .next s := by
  change execConversionFault s = _
  rw [execConversionFault, h]

/-- A discarded fault only lets the scanner go on (R107). -/
theorem exec_conversionFault_discarded {s : State} {v : Conversion} (h : s.ctl.conversion = some v)
    (hd : v.discard = true) :
    exec .conversionFault s = .next { s with ctl := s.ctl.afterConversion v.channel } := by
  change execConversionFault s = _
  simp only [execConversionFault, h, hd, if_true]

/-- A fault that is kept marks its channel and raises the flag where the channel had none (R109). -/
theorem exec_conversionFault_kept {s : State} {v : Conversion} (h : s.ctl.conversion = some v)
    (hd : v.discard = false) :
    exec .conversionFault s = .next { s.raiseIf (!s.ctl.channels[v.channel].fault) .sensorFault with
      ctl := ({ s.ctl with channels := adjust s.ctl.channels v.channel Channel.failed } : Ctl).afterConversion
        v.channel } := by
  change execConversionFault s = _
  simp only [execConversionFault, h, hd, Bool.false_eq_true, if_false]

/-- An empty round ends in the next (R106). -/
theorem exec_emptyRoundEnd_empty {s : State} (h : s.ctl.conversion = none) :
    exec .emptyRoundEnd s = .next { s with ctl := s.ctl.nextRound } := by
  change execEmptyRoundEnd s = _
  rw [execEmptyRoundEnd, h]

/-- A round with a conversion is not empty. -/
theorem exec_emptyRoundEnd_busy {s : State} {v : Conversion} (h : s.ctl.conversion = some v) :
    exec .emptyRoundEnd s = .next s := by
  change execEmptyRoundEnd s = _
  rw [execEmptyRoundEnd, h]

/-- Settles O28: the scanner goes on from a fault as if the channel had not changed, for a fault changes none of its
settings. -/
theorem faultsAndEmptyRoundsScanOn : Obligations.FaultsAndEmptyRoundsScanOn := by
  unfold Obligations.FaultsAndEmptyRoundsScanOn
  intro s
  refine ⟨fun hidle => ⟨exec_conversionFault_idle hidle, ?_⟩, fun v hv => ⟨exec_emptyRoundEnd_busy hv, ?_⟩⟩
  · obtain ⟨n, hpick, hnext⟩ := nextRound_picks s.ctl
    exact ⟨n, hpick, by rw [exec_emptyRoundEnd_empty hidle, hnext]⟩
  · cases hd : v.discard with
    | true =>
      obtain ⟨r, n, hscan, hafter⟩ := afterConversion_scansOn s.ctl v.channel
      exact ⟨r, n, hscan, fun _ => by rw [exec_conversionFault_discarded hv hd, hafter], fun h => nomatch h⟩
    | false =>
      obtain ⟨r, n, hscan, hafter⟩ := afterConversion_scansOn_adjust s.ctl
        { s.ctl with channels := adjust s.ctl.channels v.channel Channel.failed } v.channel v.channel
        failed_keepsSettings rfl rfl
      refine ⟨r, n, hscan, fun h => (nomatch h), fun _ => ⟨adjust s.ctl.channels v.channel Channel.failed,
        fun k => ?_, ?_⟩⟩
      · rw [get_adjust, Channel.failed]
        simp only [eq_comm]
      · rw [exec_conversionFault_kept hv hd, hafter]
        simp only [State.raiseIf, raiseIf_eq]

end Sys2Proof.Sampling

/-! PROOF. The control tick (R113 to R117, R131, R175): what the end of a period makes of a zone's control record, case
by case of configured mode, effective source and length of the period. -/

namespace Sys2Proof.Periods

open Sys2Proof.Machine Sys2Proof.Safety Sys2Proof.Claims Sys2Proof.Sampling

/-! ### The entry into a source (R117) -/

/-- A cause of fallback calls for FALLBACK. -/
theorem wanted_of_cause {k : Control} (h : k.causeStale = true ∨ k.causeLease = true) : k.wanted = .fallback :=
  if_pos (Bool.or_eq_true_iff.2 h)

/-- Without a cause of fallback the configured mode decides. -/
theorem wanted_of_no_cause {k : Control} (h : ¬ (k.causeStale = true ∨ k.causeLease = true)) :
    (k.mode = .pi → k.wanted = .pi) ∧ (k.mode = .openLoop → k.wanted = .openLoop) := by
  have hcause : ¬ (k.causeStale || k.causeLease) = true := fun hc => h (Bool.or_eq_true_iff.1 hc)
  constructor <;> intro hmode <;> rw [Control.wanted, if_neg hcause, hmode]

/-- The model's entry into the wanted source is the one of the statements. -/
theorem resource_eq_entered (k : Control) : k.resource = entered k := by
  rw [Control.resource, entered]
  by_cases hcause : k.causeStale = true ∨ k.causeLease = true
  · rw [wanted_of_cause hcause, if_pos hcause]
    rfl
  · obtain ⟨hpi, hopen⟩ := wanted_of_no_cause hcause
    rw [if_neg hcause]
    obtain ⟨_, mode, _⟩ := k
    cases mode with
    | pi => rw [hpi rfl]; rfl
    | openLoop => rw [hopen rfl]; rfl

/-- A zone calls for PI exactly where it is configured so and no cause of fallback stands. -/
theorem wanted_eq_pi_iff (k : Control) :
    k.wanted = .pi ↔ k.mode = .pi ∧ k.causeStale = false ∧ k.causeLease = false := by
  rw [Control.wanted]
  cases k.causeStale <;> cases k.causeLease <;> cases k.mode <;> simp

/-- A consistent zone whose effective source is PI is configured so and has no cause of fallback. -/
theorem pi_of_controlOk {k : Control} (hok : controlOk k) (hpi : k.source = .pi) :
    k.mode = .pi ∧ k.causeStale = false ∧ k.causeLease = false := by
  obtain ⟨-, -, ⟨hwanted, -⟩, -⟩ := hok
  exact (wanted_eq_pi_iff k).1 (hwanted ▸ hpi)

/-- A PI zone without a cause of fallback stays in PI. -/
theorem entered_of_pi {k : Control} (hmode : k.mode = .pi) (hstale : k.causeStale = false)
    (hlease : k.causeLease = false) (hpi : k.source = .pi) : entered k = k := by
  have hwanted := (wanted_eq_pi_iff k).2 ⟨hmode, hstale, hlease⟩
  rw [← resource_eq_entered, Control.resource_of_wanted (hwanted.trans hpi.symm)]

/-- Out of PI no entry touches U, the errors or primed. -/
theorem entered_from_pi {k : Control} (hpi : k.source = .pi) :
    (entered k).u = k.u ∧ (entered k).e1 = k.e1 ∧ (entered k).e2 = k.e2 ∧ (entered k).primed = k.primed := by
  rw [← resource_eq_entered, Control.resource]
  split
  · exact ⟨rfl, rfl, rfl, rfl⟩
  · next hother =>
    cases hw : k.wanted with
    | pi => exact absurd (hw.trans hpi.symm) hother
    | openLoop | fallback => exact ⟨rfl, rfl, rfl, rfl⟩

/-- The entry into a source looks at no sample, so the accumulators may be cleared before it. -/
theorem clearSamples_entered (k : Control) : (entered k).clearSamples = entered k.clearSamples := by
  rw [← resource_eq_entered, ← resource_eq_entered]
  change (if k.wanted = k.source then k else k.enter k.wanted).clearSamples =
    if k.wanted = k.source then k.clearSamples else k.clearSamples.enter k.wanted
  split
  · rfl
  · cases k.wanted <;> rfl

/-! ### The end of a period (R113) -/

/-- A zone's control record after steps 2 to 4 of a control tick. -/
def periodEnd (k : Control) : Control := ((k.loopStep k.average).staleStep k.average.isSome).clearSamples

theorem closePeriod_of_no_sensor {z : ZoneRec} (h : z.control.sensor = none) : z.closePeriod = z := by
  rw [ZoneRec.closePeriod, h]

/-- A zone with a sensor hands its average to loop, monitor and indicator. -/
theorem closePeriod_of_sensor {z : ZoneRec} (h : z.control.sensor ≠ none) :
    z.closePeriod = { z with
      control := periodEnd z.control
      monitor := z.control.average.elim z.monitor z.monitor.periodAverage
      lastAverage := z.control.average.elim z.lastAverage some } := by
  obtain ⟨ch, hch⟩ := Option.ne_none_iff_exists'.1 h
  rw [ZoneRec.closePeriod, hch]
  cases ha : z.control.average <;> simp only [periodEnd, ha, Option.elim]

theorem average_of_valid {k : Control} (h : k.minSamples ≤ k.sampleCount) :
    k.average = some (k.sampleSum.tdiv k.sampleCount) := if_pos h

theorem average_of_short {k : Control} (h : k.sampleCount < k.minSamples) : k.average = none := if_neg (by omega)

/-- The loop acts in PI alone. -/
theorem loopStep_of_not_pi {k : Control} (h : k.source ≠ .pi) (avg : Option Int) : k.loopStep avg = k := by
  cases avg with
  | none => rfl
  | some a =>
    cases hs : k.source with
    | pi => exact absurd hs h
    | openLoop | fallback => simp only [Control.loopStep, hs]

/-- In PI a valid average updates a primed zone and primes another (R114, R115). -/
theorem loopStep_of_pi {k : Control} (h : k.source = .pi) (a : Int) :
    k.loopStep (some a) = if k.primed then k.update a else k.prime a := by
  simp only [Control.loopStep, h]

/-- The loop changes U, rate, errors and primed alone. -/
theorem loopStep_eq (k : Control) (avg : Option Int) :
    k.loopStep avg = { k with
      u := (k.loopStep avg).u, rate := (k.loopStep avg).rate, e1 := (k.loopStep avg).e1, e2 := (k.loopStep avg).e2,
      primed := (k.loopStep avg).primed } := by
  by_cases h : k.source = .pi
  · cases avg with
    | none => rfl
    | some a =>
      rw [loopStep_of_pi h]
      cases k.primed <;> rfl
  · rw [loopStep_of_not_pi h]

/-- In the period of a PI zone that falls short the loop rests and the stale run grows (R116). -/
theorem periodEnd_of_short {k : Control} (hmode : k.mode = .pi) (h : k.sampleCount < k.minSamples) :
    periodEnd k = entered { k with
      sampleSum := 0
      sampleCount := 0
      staleRun := min 15 (k.staleRun + 1)
      causeStale :=
        if k.staleLimit ≠ 0 ∧ k.staleLimit ≤ min 15 (k.staleRun + 1) then true else k.causeStale } := by
  have hcause : (k.causeStale ||
      (decide (k.staleLimit ≠ 0) && decide (k.staleLimit ≤ min 15 (k.staleRun + 1)))) =
      if k.staleLimit ≠ 0 ∧ k.staleLimit ≤ min 15 (k.staleRun + 1) then true else k.causeStale := by
    rw [← Bool.decide_and]
    by_cases hlimit : k.staleLimit ≠ 0 ∧ k.staleLimit ≤ min 15 (k.staleRun + 1)
    · rw [decide_eq_true hlimit, if_pos hlimit, Bool.or_true]
    · rw [decide_eq_false hlimit, if_neg hlimit, Bool.or_false]
  have hloop : k.loopStep none = k := rfl
  simp only [periodEnd, average_of_short h, hloop, Control.staleStep, hmode, Option.isSome_none, Bool.false_eq_true,
    if_false, resource_eq_entered, clearSamples_entered, hcause]
  rfl

/-- In a valid period of a PI zone the loop acts, and STALE and the stale run clear (R113, R116). -/
theorem periodEnd_of_valid {k : Control} (hmode : k.mode = .pi) (h : k.minSamples ≤ k.sampleCount) :
    periodEnd k = entered { k.loopStep (some (k.sampleSum.tdiv k.sampleCount)) with
      sampleSum := 0, sampleCount := 0, staleRun := 0, causeStale := false } := by
  have hmode' : (k.loopStep (some (k.sampleSum.tdiv k.sampleCount))).mode = .pi := by rw [loopStep_eq]; exact hmode
  simp only [periodEnd, average_of_valid h, Control.staleStep, hmode', Option.isSome_some, if_true,
    resource_eq_entered, clearSamples_entered]
  rfl

/-- A zone configured OPEN and in another source than PI only clears its accumulators. -/
theorem periodEnd_of_openLoop {k : Control} (hmode : k.mode = .openLoop) (hsource : k.source ≠ .pi) :
    periodEnd k = { k with sampleSum := 0, sampleCount := 0 } := by
  have hstale : k.staleStep k.average.isSome = k := by rw [Control.staleStep, hmode]
  rw [periodEnd, loopStep_of_not_pi hsource, hstale]
  rfl

/-- In a valid period in PI without a cause of fallback the zone stays in PI. -/
theorem periodEnd_of_pi {k : Control} (hok : controlOk k) (hpi : k.source = .pi) (h : k.minSamples ≤ k.sampleCount) :
    periodEnd k = { k.loopStep (some (k.sampleSum.tdiv k.sampleCount)) with
      sampleSum := 0, sampleCount := 0, staleRun := 0, causeStale := false } := by
  obtain ⟨hmode, -, hlease⟩ := pi_of_controlOk hok hpi
  rw [periodEnd_of_valid hmode h, loopStep_eq]
  exact entered_of_pi hmode rfl hlease hpi

/-! ### The tick of the whole machine -/

/-- The control side after a control tick: the periods closed, and the indicator's count moved with the duty that the
new zone records give (log entry 17). -/
def ticked (s : State) : Ctl :=
  { s.ctl.closePeriods with indicator := s.ctl.indicator.tick (sourceDuty s.ctl.closePeriods s.traffic) }

/-- CONTROL_TICK raises ZONE_STALE where a zone gained STALE, and the table follows the new control side. -/
theorem exec_controlTick (s : State) :
    exec .controlTick s = .next (({ s with
      traffic := { s.traffic with
        flags := flagsWith (Ctl.someZone s.ctl (ticked s) fun a b =>
          !a.control.causeStale && b.control.causeStale) .zoneStale s.traffic.flags } } : State).control
        (ticked s)) := by
  change execControlTick s = _
  simp only [execControlTick, State.raiseIf, raiseIf_eq]
  rfl

theorem ticked_zone (s : State) (z : ZoneIx) : (ticked s).zones[z] = (s.ctl.zones[z]).closePeriod :=
  Ctl.zones_mapZones _ _ _

/-- After a control tick a zone with a sensor has its control record at the end of the period. -/
theorem controlTick_control {s : State} {z : ZoneIx} {ch : ChanIx} (h : s.ctl.zones[z].control.sensor = some ch) :
    ∃ t, exec .controlTick s = .next t ∧ t.ctl.zones[z].control = periodEnd s.ctl.zones[z].control := by
  refine ⟨_, exec_controlTick s, ?_⟩
  rw [State.control_ctl, ticked_zone, closePeriod_of_sensor (by rw [h]; exact Option.some_ne_none ch)]

/-! ### The statements -/

/-- A PI update with its clamp and rounding written out (R114). -/
theorem update_eq {k : Control} (hok : controlOk k) (avg : Int) :
    let e := k.setpoint - avg
    let u := max (k.rateMin * 256 : Int)
      (min (k.rateMax * 256) (k.u + (k.kp * (e - k.e1) + k.ki * e + k.kd * (e - 2 * k.e1 + k.e2))))
    k.update avg = { k with u := u, rate := (u.fdiv 256).toNat, e2 := k.e1, e1 := e } := by
  intro e u
  obtain ⟨⟨-, -, -, -, -, -, hrange, -⟩, -⟩ := hok
  have hclamp : k.clampU (k.u + k.deltaU e) = u := clamp_eq (by omega)
  have hfloor : u.fdiv 256 = u / 256 := Int.fdiv_eq_ediv_of_nonneg u (by decide)
  rw [hfloor, ← hclamp]
  rfl

/-- Settles O30: the period's end in PI is the update, for no cause of fallback stands. -/
theorem piUpdateFollowsTheFormula : Obligations.PiUpdateFollowsTheFormula := by
  unfold Obligations.PiUpdateFollowsTheFormula
  intro s z ch hsensor hpi hprimed hok hvalid
  obtain ⟨t, hexec, hcontrol⟩ := controlTick_control hsensor
  obtain ⟨-, hstale, -⟩ := pi_of_controlOk hok hpi
  refine ⟨t, hexec, ?_⟩
  rw [hcontrol, periodEnd_of_pi hok hpi hvalid, loopStep_of_pi hpi, if_pos hprimed, update_eq hok, ← hstale]

/-- Settles O31: a valid period primes; a short one keeps the zone in PI or sends it to FALLBACK, which touches neither
the errors nor U. -/
theorem primingTakesTheFirstError : Obligations.PrimingTakesTheFirstError := by
  unfold Obligations.PrimingTakesTheFirstError
  intro s z ch hsensor hpi hprimed hok
  obtain ⟨t, hexec, hcontrol⟩ := controlTick_control hsensor
  obtain ⟨hmode, hstale, -⟩ := pi_of_controlOk hok hpi
  refine ⟨t, hexec, fun hvalid => ?_, fun hshort => ?_⟩
  · rw [hcontrol, periodEnd_of_pi hok hpi hvalid, loopStep_of_pi hpi, if_neg (by rw [hprimed]; decide), ← hstale]
    rfl
  · rw [hcontrol, periodEnd_of_short hmode hshort]
    obtain ⟨hu, he1, he2, hkept⟩ := entered_from_pi (k := { s.ctl.zones[z].control with
      sampleSum := 0
      sampleCount := 0
      staleRun := min 15 (s.ctl.zones[z].control.staleRun + 1)
      causeStale := _ }) hpi
    exact ⟨hkept.trans hprimed, he1, he2, hu⟩

/-- Settles O32: the three cases of the period's end in which the loop does nothing. -/
theorem shortPeriodsAddStale : Obligations.ShortPeriodsAddStale := by
  unfold Obligations.ShortPeriodsAddStale
  intro s z ch hsensor k
  obtain ⟨t, hexec, hcontrol⟩ := controlTick_control hsensor
  refine ⟨t, hexec, fun hmode hshort => ?_, fun hmode hvalid hsource => ?_, fun hmode hsource => ?_⟩
  · rw [hcontrol, periodEnd_of_short hmode hshort]
  · rw [hcontrol, periodEnd_of_valid hmode hvalid, loopStep_of_not_pi hsource]
  · rw [hcontrol, periodEnd_of_openLoop hmode hsource]

/-! ### The monitor and the indicator (R131, R174, R175) -/

/-- A period average releases a trip in WARN and CYCLE alone (R131). -/
theorem periodAverage_eq (m : Monitor) (avg : Int) :
    m.periodAverage avg =
      if m.tripped = true ∧ (m.mode = .warn ∨ m.mode = .cycle) ∧ avg < m.shutdown - m.hysteresis then
        { m with tripped := false, overRun := 0 }
      else m := by
  by_cases hmode : m.mode = .warn ∨ m.mode = .cycle
  · have hrelease : m.periodAverage avg =
        if (m.tripped && decide (avg < m.releaseValue)) = true then m.released else m := by
      rcases hmode with h | h <;> simp only [Monitor.periodAverage, h]
    rw [hrelease]
    refine ite_congr (propext ?_) (fun _ => rfl) fun _ => rfl
    simp only [Bool.and_eq_true, decide_eq_true_eq, hmode, true_and]
    rfl
  · rw [if_neg fun ⟨_, h, _⟩ => hmode h, Monitor.periodAverage]
    cases h : m.mode with
    | off | latched => rfl
    | warn => exact absurd (.inl h) hmode
    | cycle => exact absurd (.inr h) hmode

/-- The occupancy is the number of slots that are not FREE, counted by slot number. -/
theorem occupancy_eq (t : Traffic) :
    t.occupancy = (List.finRange 64).countP fun i => decide ((t.slot i).state ≠ .free) := by
  have hslots : t.slots.toList = (List.finRange 64).map t.slot := by
    refine List.ext_getElem (by simp) fun i h1 h2 => ?_
    simp [Traffic.slot]
  rw [Traffic.occupancy, hslots, List.countP_map]
  refine List.countP_congr fun i _ => ?_
  cases h : (t.slot i).state <;> simp [h, SlotState.isFree]

/-- The duty of the indicator's source is the one of the statements. -/
theorem sourceDuty_eq_dutyOf (c : Ctl) (t : Traffic) : sourceDuty c t = dutyOf c t := by
  rw [sourceDuty, dutyOf]
  cases c.indicator.source with
  | off | zoneRate z => rfl
  | zoneTemp z => cases c.zones[z].lastAverage <;> rfl
  | occupancy => rw [occupancy_eq]

theorem tick_source (n : Indicator) (d : Duty) : (n.tick d).source = n.source := by
  rw [Indicator.tick]
  cases n.blanking <;> rfl

/-- The tick changes no source, so the duty of the new control side is the one that the tick was given. -/
theorem dutyOf_ticked (s : State) : dutyOf (ticked s) s.traffic = sourceDuty s.ctl.closePeriods s.traffic := by
  have hsource : (ticked s).indicator.source = s.ctl.closePeriods.indicator.source := tick_source _ _
  rw [sourceDuty_eq_dutyOf, dutyOf, dutyOf, hsource]
  rfl

theorem tick_of_not_blanking {n : Indicator} (h : n.blanking = 0) (d : Duty) : n.tick d = n := by
  rw [Indicator.tick, h]

theorem tick_of_last {n : Indicator} (h : n.blanking = 1) (d : Duty) :
    n.tick d = { n with blanking := 0, duty := d } := by
  rw [Indicator.tick, h]
  rfl

theorem tick_of_blanking {n : Indicator} (h : 2 ≤ n.blanking) (d : Duty) :
    n.tick d = { n with blanking := n.blanking - 1 } := by
  obtain ⟨b, hb⟩ := Nat.exists_eq_add_of_le' h
  rw [Indicator.tick, hb]
  rfl

/-- Settles O29: every zone closes its period as `closePeriod_of_sensor` says, and the indicator's count moves on the
new control side. -/
theorem controlTickClosesEveryPeriod : Obligations.ControlTickClosesEveryPeriod := by
  unfold Obligations.ControlTickClosesEveryPeriod
  intro s
  refine ⟨ticked s, _, exec_controlTick s, rfl, ?_, fun z hz => ?_, fun z hz => ?_, fun h => ?_, fun h => ?_,
    fun h => ?_⟩
  · simp only [someZone_iff, Bool.and_eq_true, Bool.not_eq_true']
  · rw [ticked_zone, closePeriod_of_no_sensor hz]
  · intro k m avg
    rw [ticked_zone, closePeriod_of_sensor hz]
    refine ⟨rfl, rfl, rfl, fun hshort => ?_, fun hvalid => ?_⟩
    · rw [show k.average = none from average_of_short hshort]
      exact ⟨rfl, rfl⟩
    · rw [show k.average = some avg from average_of_valid hvalid]
      exact ⟨rfl, periodAverage_eq m avg⟩
  · exact tick_of_not_blanking h _
  · rw [dutyOf_ticked]
    exact tick_of_last h _
  · exact tick_of_blanking h _

end Sys2Proof.Periods

/-! PROOF. The events of the rail and the surge monitor (R134, R135, R138 to R140): each is a change of the control side
with at most one flag, and the tables are read off the functions that give the next monitor state. -/

namespace Sys2Proof.RailAndSurge

open Sys2Proof.Machine Sys2Proof.Claims

/-! ### An event of the control side with its flag -/

/-- A control-side event without a flag. -/
theorem control_eq_follows (s : State) (c : Ctl) : s.control c = follows s none c := rfl

/-- A control-side event with a flag raised on a condition (R168). -/
theorem raiseIf_control_eq_follows (b : Bool) (e : Event) (s : State) (c : Ctl) :
    (s.raiseIf b e).control c = follows s (if b then some e else none) c := by cases b <;> rfl

/-! ### The rail monitor (R134, R135) -/

theorem exec_railgoodFall_of_low {s : State} (h : s.ctl.railGood = false) : exec .railgoodFall s = .next s := by
  change execRailgoodFall s = _
  rw [execRailgoodFall, h, if_neg Bool.false_ne_true]

theorem exec_railgoodFall_of_high {s : State} (h : s.ctl.railGood = true) :
    exec .railgoodFall s = .next (follows s (if s.ctl.railState.fallLoses then some .railLoss else none)
      { s.ctl with railGood := false, railState := s.ctl.railState.onFall s.ctl.railFilter }) := by
  change execRailgoodFall s = _
  rw [execRailgoodFall, if_pos h, raiseIf_control_eq_follows]

theorem exec_railgoodRise_of_high {s : State} (h : s.ctl.railGood = true) : exec .railgoodRise s = .next s := by
  change execRailgoodRise s = _
  rw [execRailgoodRise, if_pos h]

theorem exec_railgoodRise_of_low {s : State} (h : s.ctl.railGood = false) :
    exec .railgoodRise s = .next (follows s
      (if s.ctl.railState.riseReturns s.ctl.railMode then some .railReturn else none)
      { s.ctl with railGood := true, railState := s.ctl.railState.onRise s.ctl.railMode }) := by
  change execRailgoodRise s = _
  rw [execRailgoodRise, h, if_neg Bool.false_ne_true, raiseIf_control_eq_follows]

/-- Where the monitor keeps its state an edge of RAILGOOD changes the level alone. -/
theorem follows_of_railState_kept {s : State} {r : RailState} (h : s.ctl.railState = r) (level : Bool) :
    follows s none { s.ctl with railGood := level, railState := r } =
      follows s none { s.ctl with railGood := level } := by subst h; rfl

theorem exec_railFilterExpiry_of_filtering {s : State} {n : Nat} (h : s.ctl.railState = .filtering n) :
    exec .railFilterExpiry s = .next (follows s (some .railLoss) { s.ctl with railState := .lost }) := by
  change execRailFilterExpiry s = _
  rw [execRailFilterExpiry, h]
  rfl

theorem exec_railFilterExpiry_of_not_filtering {s : State} (h : ∀ n, s.ctl.railState ≠ .filtering n) :
    exec .railFilterExpiry s = .next s := by
  change execRailFilterExpiry s = _
  rw [execRailFilterExpiry]
  cases hr : s.ctl.railState with
  | filtering n => exact absurd hr (h n)
  | idle | good | lost | recoveredLatched => rfl

/-- Settles O33: a fall and a rise by the state they meet, a rise from LOST also by the mode. -/
theorem railTable : Obligations.RailTable := by
  unfold Obligations.RailTable
  intro s
  refine ⟨exec_railgoodFall_of_low, fun h => ?_, exec_railgoodRise_of_high, fun h => ?_,
    fun n => exec_railFilterExpiry_of_filtering, exec_railFilterExpiry_of_not_filtering⟩
  · rw [exec_railgoodFall_of_high h]
    cases hr : s.ctl.railState with
    | good | recoveredLatched => rfl
    | idle | filtering n | lost => exact congrArg Host.Outcome.next (follows_of_railState_kept hr false)
  · rw [exec_railgoodRise_of_low h]
    cases hr : s.ctl.railState with
    | filtering n => rfl
    | idle | good | recoveredLatched => exact congrArg Host.Outcome.next (follows_of_railState_kept hr true)
    | lost =>
      cases s.ctl.railMode with
      | auto | latched => rfl
      | off => exact congrArg Host.Outcome.next (follows_of_railState_kept hr true)

/-! ### The surge monitor (R138 to R140) -/

/-- An assertion taken in ARMED trips at once exactly where there is no filter (R139). -/
theorem asserted_eq_tripped_iff (f : SurgeFilter) : f.asserted = .tripped ↔ f = .none := by
  cases f <;> simp [SurgeFilter.asserted]

/-- The control side enters TRIPPED where it stands there after the event and did not before. -/
theorem surgeTrips_iff (c0 c1 : Ctl) :
    surgeTrips c0 c1 = true ↔ c0.surgeState ≠ .tripped ∧ c1.surgeState = .tripped := by
  have hactive : ∀ c : Ctl, c.surgeActive = true ↔ c.surgeState = .tripped := fun c => by
    rw [Ctl.surgeActive]
    cases c.surgeState <;> simp
  rw [surgeTrips, Bool.and_eq_true, Bool.not_eq_true', ← Bool.not_eq_true, hactive, hactive]

theorem exec_surgeAssert_of_asserted {s : State} (h : s.ctl.surgeAsserted = true) :
    exec .surgeAssert s = .next s := by
  change execSurgeAssert s = _
  rw [execSurgeAssert, if_pos h]

theorem exec_surgeAssert_of_deasserted {s : State} (h : s.ctl.surgeAsserted = false) :
    exec .surgeAssert s = .next (follows s
      (if s.ctl.surgeState ≠ .tripped ∧ s.ctl.surgeOnAssert = .tripped then some .surge else none)
      { s.ctl with surgeAsserted := true, surgeState := s.ctl.surgeOnAssert }) := by
  change execSurgeAssert s = _
  simp only [execSurgeAssert, h, Bool.false_eq_true, if_false, raiseIf_control_eq_follows, surgeTrips_iff]

/-- Outside ARMED an assertion leaves the monitor's state (R139). -/
theorem surgeOnAssert_of_not_armed {c : Ctl} (h : c.surgeState ≠ .armed) : c.surgeOnAssert = c.surgeState := by
  rw [Ctl.surgeOnAssert]
  cases hs : c.surgeState with
  | armed => exact absurd hs h
  | idle | filtering n | tripped => rfl

theorem surgeOnAssert_of_armed {c : Ctl} (h : c.surgeState = .armed) : c.surgeOnAssert = c.surgeFilter.asserted := by
  rw [Ctl.surgeOnAssert, h]

theorem exec_surgeDeassert_of_deasserted {s : State} (h : s.ctl.surgeAsserted = false) :
    exec .surgeDeassert s = .next s := by
  change execSurgeDeassert s = _
  rw [execSurgeDeassert, h, if_neg Bool.false_ne_true]

theorem exec_surgeDeassert_of_asserted {s : State} (h : s.ctl.surgeAsserted = true) :
    exec .surgeDeassert s = .next (follows s none
      { s.ctl with surgeAsserted := false, surgeState := s.ctl.surgeOnDeassert }) := by
  change execSurgeDeassert s = _
  rw [execSurgeDeassert, if_pos h, control_eq_follows]

/-- Where the monitor keeps its state an edge of SURGE changes the level alone. -/
theorem follows_of_surgeState_kept {s : State} {r : SurgeState} (h : s.ctl.surgeState = r) (level : Bool) :
    follows s none { s.ctl with surgeAsserted := level, surgeState := r } =
      follows s none { s.ctl with surgeAsserted := level } := by subst h; rfl

theorem exec_surgeFilterExpiry_of_filtering {s : State} {n : Nat} (h : s.ctl.surgeState = .filtering n) :
    exec .surgeFilterExpiry s = .next (follows s (some .surge) { s.ctl with surgeState := .tripped }) := by
  change execSurgeFilterExpiry s = _
  rw [execSurgeFilterExpiry, h]
  rfl

theorem exec_surgeFilterExpiry_of_not_filtering {s : State} (h : ∀ n, s.ctl.surgeState ≠ .filtering n) :
    exec .surgeFilterExpiry s = .next s := by
  change execSurgeFilterExpiry s = _
  rw [execSurgeFilterExpiry]
  cases hs : s.ctl.surgeState with
  | filtering n => exact absurd hs (h n)
  | idle | armed | tripped => rfl

theorem exec_cycleBoundary (s : State) :
    exec .cycleBoundary s = .next (follows s none { s.ctl with surgeState := s.ctl.surgeAtBoundary }) := rfl

/-- A boundary in TRIPPED of mode CYCLE arms the monitor again, and a SURGE still asserted is an assertion taken in
ARMED (R140). -/
theorem surgeAtBoundary_of_tripped {c : Ctl} (hm : c.surgeMode = .cycle) (hs : c.surgeState = .tripped) :
    c.surgeAtBoundary = if c.surgeAsserted = true then c.surgeFilter.asserted else .armed := by
  rw [Ctl.surgeAtBoundary, hm, hs]
  rfl

/-- Any other boundary leaves the monitor's state (R140). -/
theorem surgeAtBoundary_of_not {c : Ctl} (h : ¬ (c.surgeMode = .cycle ∧ c.surgeState = .tripped)) :
    c.surgeAtBoundary = c.surgeState := by
  rw [Ctl.surgeAtBoundary]
  cases hm : c.surgeMode with
  | off | latched => rfl
  | cycle =>
    cases hs : c.surgeState with
    | tripped => exact absurd ⟨hm, hs⟩ h
    | idle | armed | filtering n => rfl

/-- Settles O34: the assertion by whether it is taken in ARMED, the deassertion by the state it meets, and the boundary
by whether it is one in TRIPPED of mode CYCLE. -/
theorem surgeTable : Obligations.SurgeTable := by
  unfold Obligations.SurgeTable
  intro s started
  have hstarted : started = s.ctl.surgeFilter.asserted := by
    simp only [started]
    cases s.ctl.surgeFilter <;> rfl
  clear_value started
  subst hstarted
  refine ⟨exec_surgeAssert_of_asserted, fun h => ?_, exec_surgeDeassert_of_deasserted, fun h => ?_,
    fun n => exec_surgeFilterExpiry_of_filtering, exec_surgeFilterExpiry_of_not_filtering, ?_⟩
  · rw [exec_surgeAssert_of_deasserted h]
    by_cases ha : s.ctl.surgeState = .armed
    · have hcalm : s.ctl.surgeState ≠ .tripped := by rw [ha]; exact SurgeState.noConfusion
      simp only [if_pos ha, surgeOnAssert_of_armed ha, asserted_eq_tripped_iff, hcalm, ne_eq, not_false_eq_true,
        true_and]
    · simp only [if_neg ha, surgeOnAssert_of_not_armed ha, ne_eq, not_and_self_iff, if_false]
  · rw [exec_surgeDeassert_of_asserted h, Ctl.surgeOnDeassert]
    cases hs : s.ctl.surgeState with
    | filtering n => rfl
    | idle | armed | tripped => exact congrArg Host.Outcome.next (follows_of_surgeState_kept hs false)
  · rw [exec_cycleBoundary]
    by_cases hb : s.ctl.surgeMode = .cycle ∧ s.ctl.surgeState = .tripped
    · rw [if_pos hb, surgeAtBoundary_of_tripped hb.1 hb.2]
    · rw [if_neg hb, surgeAtBoundary_of_not hb]

end Sys2Proof.RailAndSurge

/-! PROOF. The writes of the monitor modes (R125, R126, R136, R140): what the named WRITE frame does while the pointer
stands at its field, and what a changed mode does to its monitor. -/

namespace Sys2Proof.MonitorModes

open Sys2Proof.Machine Sys2Proof.Claims Sys2Proof.RailAndSurge

/-! ### A WRITE of a live field (R157, R163, R165) -/

theorem pointed_of_pointsAt {s : State} {o : ObjRef} {n : BitVec 8} (h : pointsAt s o n) :
    s.pointed = o.fieldAt n := by
  obtain ⟨-, ho, hn⟩ := h
  rw [State.pointed, ho, hn]

theorem gate_of_live {f : Field} (h : f.access = .live) (s : State) : s.gate f = none := by rw [State.gate, h]

/-- The end of a WRITE whose value passes, with the field's value as the machine reads it afterwards. -/
theorem writeTo_some_ended {s u : State} {f : Field} (h : f.access = .live) :
    (s.writeTo f (some u)).ended = accepted u (u.readField f) := by
  rw [State.writeTo, gate_of_live h]
  rfl

/-- The end of a WRITE whose value is refused: status and pointer alone change. -/
theorem writeTo_none_ended {s : State} {f : Field} (h : f.access = .live) :
    (s.writeTo f none).ended = { s with link := fieldFrameEnd s.link .invalid (s.readField f) } := by
  rw [State.writeTo, gate_of_live h]
  rfl

/-! ### The zone monitor's mode (R125, R126, R129) -/

theorem exec_monitorModeWrite {s : State} {z : ZoneIx} (h : pointsAt s (.zone z) 32) (v : Word) :
    exec (.monitorModeWrite v) s =
      .next (s.writeTo (.zone z .monitorMode) (s.storeMonitorMode z v)).ended := by
  have hpointed : s.pointed = some (.zone z .monitorMode) := pointed_of_pointsAt h
  change execMonitorModeWrite v s = _
  rw [execMonitorModeWrite, State.frame_taken _ h.1, hpointed]

theorem code_of_monModeOf {v : Word} {m : MonMode} (h : monModeOf v = some m) : m.code = v := by
  rw [monModeOf] at h
  repeat' split at h
  all_goals cases h
  all_goals exact Eq.symm ‹v = _›

/-- The four values of a monitor mode (section 10.4). -/
theorem monModeOf_of_le {v : Word} (h : v.toNat ≤ 3) :
    monModeOf v = some (if v = 0 then .off else if v = 1 then .warn else if v = 2 then .cycle else .latched) := by
  rw [monModeOf]
  by_cases h0 : v = 0
  · rw [if_pos h0, if_pos h0]
  by_cases h1 : v = 1
  · rw [if_neg h0, if_neg h0, if_pos h1, if_pos h1]
  by_cases h2 : v = 2
  · rw [if_neg h0, if_neg h0, if_neg h1, if_neg h1, if_pos h2, if_pos h2]
  have h3 : v = 3 := by bv_omega
  rw [if_neg h0, if_neg h0, if_neg h1, if_neg h1, if_neg h2, if_neg h2, if_pos h3]

theorem monModeOf_of_gt {v : Word} (h : 3 < v.toNat) : monModeOf v = none := by
  rw [monModeOf, if_neg, if_neg, if_neg, if_neg] <;> bv_omega

/-- A changed mode resets the monitor where it comes from OFF or goes to it (R126). -/
theorem setMode_eq (m : Monitor) (md : MonMode) :
    m.setMode md =
      if md ≠ m.mode ∧ (md = .off ∨ m.mode = .off) then
        { m with mode := md, warnLevel := .none, overRun := 0, tripped := false }
      else { m with mode := md } := by
  obtain ⟨mode, _⟩ := m
  cases md <;> cases mode <;> rfl

theorem setMode_mode (m : Monitor) (md : MonMode) : (m.setMode md).mode = md := by
  rw [setMode_eq]
  split <;> rfl

/-- A mode write reaches mode, warn level, trip state and over-run alone. -/
theorem setMode_frame (m : Monitor) (md : MonMode) :
    m.setMode md = { m with
      mode := (m.setMode md).mode, warnLevel := (m.setMode md).warnLevel, overRun := (m.setMode md).overRun,
      tripped := (m.setMode md).tripped } := by
  rw [setMode_eq]
  split <;> rfl

/-- A value that names a mode is accepted, and the table follows the fences (R126, R129). -/
theorem exec_monitorModeWrite_of_mode {s : State} {z : ZoneIx} {v : Word} {md : MonMode}
    (h : pointsAt s (.zone z) 32) (hv : monModeOf v = some md) :
    exec (.monitorModeWrite v) s = .next
      (accepted (follows s none (monitorOf s.ctl z (s.ctl.zones[z].monitor.setMode md))) v) := by
  have hstore : s.storeMonitorMode z v =
      some (follows s none (monitorOf s.ctl z (s.ctl.zones[z].monitor.setMode md))) := by
    rw [State.storeMonitorMode, hv]
    rfl
  have hread : (monitorOf s.ctl z (s.ctl.zones[z].monitor.setMode md)).zones[z].monitor.mode.code = v := by
    rw [← code_of_monModeOf hv]
    simp [monitorOf, setMode_mode]
  rw [exec_monitorModeWrite h, hstore, writeTo_some_ended rfl]
  exact congrArg (fun w => Host.Outcome.next (accepted _ w)) hread

/-- Any other value is refused (R125). -/
theorem exec_monitorModeWrite_refused {s : State} {z : ZoneIx} {v : Word} (h : pointsAt s (.zone z) 32)
    (hv : monModeOf v = none) :
    exec (.monitorModeWrite v) s =
      .next { s with link := fieldFrameEnd s.link .invalid s.ctl.zones[z].monitor.mode.code } := by
  rw [exec_monitorModeWrite h, State.storeMonitorMode, hv, Option.map_none, writeTo_none_ended rfl]
  rfl

/-! ### The rail monitor's mode (R134, R136) -/

theorem exec_railModeWrite {s : State} (h : pointsAt s .global 11) (v : Word) :
    exec (.railModeWrite v) s = .next (s.writeTo (.global .railMode) (s.storeRailMode v)).ended := by
  have hpointed : s.pointed = some (.global .railMode) := pointed_of_pointsAt h
  change execRailModeWrite v s = _
  rw [execRailModeWrite, State.frame_taken _ h.1, hpointed]

theorem code_of_railModeOf {v : Word} {m : RailMode} (h : railModeOf v = some m) : m.code = v := by
  rw [railModeOf] at h
  repeat' split at h
  all_goals cases h
  all_goals exact Eq.symm ‹v = _›

theorem setRailMode_of_eq {s : State} {m : RailMode} (h : s.ctl.railMode = m) : s.setRailMode m = s :=
  if_pos h.symm

/-- A changed mode, with RAIL_RETURN where it leads from LATCHED to AUTO in RECOVERED_LATCHED (R136). -/
theorem setRailMode_of_ne {s : State} {m : RailMode} (h : s.ctl.railMode ≠ m) :
    s.setRailMode m = follows s
      (if s.ctl.railState.isRecovered && decide (s.ctl.railMode = .latched) && decide (m = .auto) then
        some .railReturn else none)
      { s.ctl with railMode := m, railState := s.ctl.railStateFor m } := by
  rw [State.setRailMode, if_neg (Ne.symm h), raiseIf_control_eq_follows]

theorem setRailMode_railMode (s : State) (m : RailMode) : (s.setRailMode m).ctl.railMode = m := by
  by_cases h : s.ctl.railMode = m
  · rw [setRailMode_of_eq h, h]
  · rw [setRailMode_of_ne h]
    rfl

theorem setRailMode_off {s : State} (h : s.ctl.railMode ≠ .off) :
    s.setRailMode .off = follows s none { s.ctl with railMode := .off, railState := .idle } := by
  have hstate : s.ctl.railStateFor .off = .idle := by simp only [Ctl.railStateFor]
  rw [setRailMode_of_ne h, hstate]
  simp

/-- Out of OFF the monitor starts from the level of RAILGOOD (R136). -/
theorem setRailMode_of_off {s : State} {m : RailMode} (h : s.ctl.railMode = .off) (hm : m ≠ .off) :
    s.setRailMode m = follows s none { s.ctl with
      railMode := m, railState := if s.ctl.railGood = true then .good else .filtering s.ctl.railFilter } := by
  have hstate : s.ctl.railStateFor m = if s.ctl.railGood = true then .good else .filtering s.ctl.railFilter := by
    simp only [Ctl.railStateFor, h]
    cases m with
    | off => exact absurd rfl hm
    | auto | latched => rfl
  rw [setRailMode_of_ne (h ▸ hm.symm), hstate]
  simp [h]

theorem setRailMode_latched_of_auto {s : State} (h : s.ctl.railMode = .auto) :
    s.setRailMode .latched = follows s none { s.ctl with railMode := .latched } := by
  have hstate : s.ctl.railStateFor .latched = s.ctl.railState := by simp only [Ctl.railStateFor, h]
  rw [setRailMode_of_ne (h ▸ RailMode.noConfusion), hstate]
  simp

/-- From LATCHED to AUTO a recovered rail returns (R136). -/
theorem setRailMode_auto_of_recovered {s : State} (h : s.ctl.railMode = .latched)
    (hr : s.ctl.railState = .recoveredLatched) :
    s.setRailMode .auto = follows s (some .railReturn) { s.ctl with railMode := .auto, railState := .good } := by
  have hstate : s.ctl.railStateFor .auto = .good := by simp only [Ctl.railStateFor, h, hr]
  rw [setRailMode_of_ne (h ▸ RailMode.noConfusion), hstate, hr, h]
  rfl

theorem setRailMode_auto_of_not_recovered {s : State} (h : s.ctl.railMode = .latched)
    (hr : s.ctl.railState ≠ .recoveredLatched) :
    s.setRailMode .auto = follows s none { s.ctl with railMode := .auto } := by
  have hkept : s.ctl.railStateFor .auto = s.ctl.railState ∧ s.ctl.railState.isRecovered = false := by
    simp only [Ctl.railStateFor, h]
    cases hs : s.ctl.railState with
    | recoveredLatched => exact absurd hs hr
    | idle | good | filtering n | lost => exact ⟨rfl, rfl⟩
  obtain ⟨hstate, hflag⟩ := hkept
  rw [setRailMode_of_ne (h ▸ RailMode.noConfusion), hstate, hflag]
  rfl

/-- A value that names a mode is accepted. -/
theorem exec_railModeWrite_of_mode {s : State} {v : Word} {m : RailMode} (h : pointsAt s .global 11)
    (hv : railModeOf v = some m) : exec (.railModeWrite v) s = .next (accepted (s.setRailMode m) v) := by
  rw [exec_railModeWrite h, State.storeRailMode, hv, Option.map_some, writeTo_some_ended rfl]
  have hread : (s.setRailMode m).ctl.railMode.code = v := by rw [setRailMode_railMode, code_of_railModeOf hv]
  exact congrArg (fun w => Host.Outcome.next (accepted _ w)) hread

/-- Any other value is refused. -/
theorem exec_railModeWrite_refused {s : State} {v : Word} (h : pointsAt s .global 11) (hv : railModeOf v = none) :
    exec (.railModeWrite v) s = .next { s with link := fieldFrameEnd s.link .invalid s.ctl.railMode.code } := by
  rw [exec_railModeWrite h, State.storeRailMode, hv, Option.map_none, writeTo_none_ended rfl]
  rfl

/-! ### The surge monitor's mode (R138, R140) -/

theorem exec_surgeModeWrite {s : State} (h : pointsAt s .global 14) (v : Word) :
    exec (.surgeModeWrite v) s = .next (s.writeTo (.global .surgeMode) (s.storeSurgeMode v)).ended := by
  have hpointed : s.pointed = some (.global .surgeMode) := pointed_of_pointsAt h
  change execSurgeModeWrite v s = _
  rw [execSurgeModeWrite, State.frame_taken _ h.1, hpointed]

theorem code_of_surgeModeOf {v : Word} {m : SurgeMode} (h : surgeModeOf v = some m) : m.code = v := by
  rw [surgeModeOf] at h
  repeat' split at h
  all_goals cases h
  all_goals exact Eq.symm ‹v = _›

theorem setSurgeMode_of_eq {s : State} {m : SurgeMode} (h : s.ctl.surgeMode = m) : s.setSurgeMode m = s :=
  if_pos h.symm

/-- A changed mode, with SURGE where it enters TRIPPED (R139, R140). -/
theorem setSurgeMode_of_ne {s : State} {m : SurgeMode} (h : s.ctl.surgeMode ≠ m) :
    s.setSurgeMode m = follows s
      (if s.ctl.surgeState ≠ .tripped ∧ s.ctl.surgeStateFor m = .tripped then some .surge else none)
      { s.ctl with surgeMode := m, surgeState := s.ctl.surgeStateFor m } := by
  simp only [State.setSurgeMode, if_neg (Ne.symm h), raiseIf_control_eq_follows, surgeTrips_iff]

theorem setSurgeMode_surgeMode (s : State) (m : SurgeMode) : (s.setSurgeMode m).ctl.surgeMode = m := by
  by_cases h : s.ctl.surgeMode = m
  · rw [setSurgeMode_of_eq h, h]
  · rw [setSurgeMode_of_ne h]
    rfl

theorem setSurgeMode_off {s : State} (h : s.ctl.surgeMode ≠ .off) :
    s.setSurgeMode .off = follows s none { s.ctl with surgeMode := .off, surgeState := .idle } := by
  have hstate : s.ctl.surgeStateFor .off = .idle := by simp only [Ctl.surgeStateFor]
  rw [setSurgeMode_of_ne h, hstate]
  simp

/-- Out of OFF the monitor is armed, and a SURGE that stands is an assertion taken in ARMED (R140). -/
theorem setSurgeMode_of_off {s : State} {m : SurgeMode} (h : s.ctl.surgeMode = .off) (hm : m ≠ .off) :
    s.setSurgeMode m = follows s
      (if s.ctl.surgeAsserted = true ∧ s.ctl.surgeFilter = .none ∧ s.ctl.surgeState ≠ .tripped then
        some .surge else none)
      { s.ctl with
        surgeMode := m, surgeState := if s.ctl.surgeAsserted = true then s.ctl.surgeFilter.asserted else .armed } := by
  have hstate : s.ctl.surgeStateFor m =
      if s.ctl.surgeAsserted = true then s.ctl.surgeFilter.asserted else .armed := by
    simp only [Ctl.surgeStateFor, h]
    cases m with
    | off => exact absurd rfl hm
    | cycle | latched => rfl
  rw [setSurgeMode_of_ne (h ▸ hm.symm), hstate]
  congr 2
  cases s.ctl.surgeAsserted <;> simp [asserted_eq_tripped_iff, and_comm]

/-- Between CYCLE and LATCHED the monitor keeps its state (R140). -/
theorem setSurgeMode_of_on {s : State} {m : SurgeMode} (h : s.ctl.surgeMode ≠ .off) (hm : m ≠ .off)
    (hne : s.ctl.surgeMode ≠ m) : s.setSurgeMode m = follows s none { s.ctl with surgeMode := m } := by
  have hstate : s.ctl.surgeStateFor m = s.ctl.surgeState := by
    simp only [Ctl.surgeStateFor]
    cases hs : s.ctl.surgeMode with
    | off => exact absurd hs h
    | cycle | latched =>
      cases m with
      | off => exact absurd rfl hm
      | cycle | latched => rfl
  rw [setSurgeMode_of_ne hne, hstate]
  simp

/-- A value that names a mode is accepted. -/
theorem exec_surgeModeWrite_of_mode {s : State} {v : Word} {m : SurgeMode} (h : pointsAt s .global 14)
    (hv : surgeModeOf v = some m) : exec (.surgeModeWrite v) s = .next (accepted (s.setSurgeMode m) v) := by
  rw [exec_surgeModeWrite h, State.storeSurgeMode, hv, Option.map_some, writeTo_some_ended rfl]
  have hread : (s.setSurgeMode m).ctl.surgeMode.code = v := by rw [setSurgeMode_surgeMode, code_of_surgeModeOf hv]
  exact congrArg (fun w => Host.Outcome.next (accepted _ w)) hread

/-- Any other value is refused. -/
theorem exec_surgeModeWrite_refused {s : State} {v : Word} (h : pointsAt s .global 14) (hv : surgeModeOf v = none) :
    exec (.surgeModeWrite v) s = .next { s with link := fieldFrameEnd s.link .invalid s.ctl.surgeMode.code } := by
  rw [exec_surgeModeWrite h, State.storeSurgeMode, hv, Option.map_none, writeTo_none_ended rfl]
  rfl

/-! ### The statement -/

/-- Settles O49: each mode by the value written, and an accepted value by the mode that it meets. -/
theorem acceptedMonitorModeWrites : Obligations.AcceptedMonitorModeWrites := by
  unfold Obligations.AcceptedMonitorModeWrites
  intro v s
  refine ⟨?_, fun z h hv => exec_monitorModeWrite_refused h (monModeOf_of_gt hv), fun h => ?_, ?_⟩
  · intro z h hv m
    refine ⟨_, exec_monitorModeWrite_of_mode h (monModeOf_of_le hv.2), setMode_mode _ _, setMode_frame _ _,
      fun hne hoff => ?_, fun hsame => ?_⟩
    · rw [setMode_mode] at hne hoff
      rw [setMode_eq, if_pos ⟨hne, hoff⟩]
      exact ⟨rfl, rfl, rfl⟩
    · rw [setMode_mode] at hsame
      rw [setMode_eq, if_neg fun ⟨hne, hoff⟩ => hsame.elim hne fun ⟨hon, hmon⟩ => hoff.elim hon hmon]
      exact ⟨rfl, rfl, rfl⟩
  · by_cases h0 : v = 0
    · rw [exec_railModeWrite_of_mode h (m := .off) (by rw [h0]; rfl), if_pos h0]
      by_cases hm : s.ctl.railMode = .off
      · rw [if_pos hm, setRailMode_of_eq hm]
      · rw [if_neg hm, setRailMode_off hm]
    by_cases h1 : v = 1
    · rw [exec_railModeWrite_of_mode h (m := .auto) (by rw [h1]; rfl), if_neg h0, if_pos h1]
      cases hm : s.ctl.railMode with
      | auto => rw [setRailMode_of_eq hm]
      | off => rw [setRailMode_of_off hm RailMode.noConfusion]
      | latched =>
        by_cases hr : s.ctl.railState = .recoveredLatched
        · rw [setRailMode_auto_of_recovered hm hr, if_pos hr]
        · rw [setRailMode_auto_of_not_recovered hm hr, if_neg hr]
    by_cases h2 : v = 2
    · rw [exec_railModeWrite_of_mode h (m := .latched) (by rw [h2]; rfl), if_neg h0, if_neg h1, if_pos h2]
      cases hm : s.ctl.railMode with
      | latched => rw [setRailMode_of_eq hm]
      | off => rw [setRailMode_of_off hm RailMode.noConfusion]
      | auto => rw [setRailMode_latched_of_auto hm]
    have hnone : railModeOf v = none := by rw [railModeOf, if_neg h0, if_neg h1, if_neg h2]
    rw [exec_railModeWrite_refused h hnone, if_neg h0, if_neg h1, if_neg h2]
  · intro h started
    have hstarted : started = s.ctl.surgeFilter.asserted := by
      simp only [started]
      cases s.ctl.surgeFilter <;> rfl
    clear_value started
    subst hstarted
    by_cases h0 : v = 0
    · rw [exec_surgeModeWrite_of_mode h (m := .off) (by rw [h0]; rfl), if_pos h0]
      by_cases hm : s.ctl.surgeMode = .off
      · rw [if_pos hm, setSurgeMode_of_eq hm]
      · rw [if_neg hm, setSurgeMode_off hm]
    by_cases h12 : v = 1 ∨ v = 2
    · have hmode : surgeModeOf v = some (if v = 1 then .cycle else .latched) := by
        rcases h12 with rfl | rfl <;> rfl
      have hon : (if v = 1 then .cycle else .latched : SurgeMode) ≠ .off := by split <;> exact SurgeMode.noConfusion
      rw [exec_surgeModeWrite_of_mode h hmode, if_neg h0, if_pos h12]
      by_cases hm : s.ctl.surgeMode = if v = 1 then .cycle else .latched
      · rw [setSurgeMode_of_eq hm, if_pos hm]
      by_cases hoff : s.ctl.surgeMode = .off
      · rw [setSurgeMode_of_off hoff hon, if_neg hm, if_pos hoff]
      · rw [setSurgeMode_of_on hoff hon hm, if_neg hm, if_neg hoff]
    have hnone : surgeModeOf v = none := by
      rw [surgeModeOf, if_neg h0, if_neg fun h1 => h12 (.inl h1), if_neg fun h2 => h12 (.inr h2)]
    rw [exec_surgeModeWrite_refused h hnone, if_neg h0, if_neg h12]

end Sys2Proof.MonitorModes

/-! PROOF. CLEAR (R132, R136, R140, R148, R162): its parts fold over the mask and the state, and each part's bit of the
value is the one that the part itself set. -/

namespace Sys2Proof.Clearing

open Sys2Proof.Machine Sys2Proof.Claims Sys2Proof.RailAndSurge Sys2Proof.Periods

/-! ### The mask (R162) -/

/-- CLEAR takes the masks 0 to 15: the bits that it forbids are those that a shift by 4 leaves. -/
theorem and_highBits_eq_zero_iff (mask : Word) : mask &&& 0xFFF0 = 0 ↔ mask.toNat ≤ 15 := by
  have hhigh : (0xFFF0 : Word) = BitVec.allOnes 16 <<< 4 := by decide
  rw [hhigh, ← BitVec.shiftLeft_ushiftRight, ← BitVec.toNat_inj, BitVec.toNat_shiftLeft, BitVec.toNat_ushiftRight,
    Nat.shiftLeft_eq, Nat.shiftRight_eq_div_pow]
  change _ = 0 ↔ _
  omega

/-! ### One part (R162) -/

section Part

variable {mask : Word} {n k : Nat} {part : State → Bool × State} {acc : Word × State}

theorem clearIf_of_unset (h : mask.getLsbD n = false) : clearIf mask n part acc = acc := by
  rw [clearIf, h, if_neg Bool.false_ne_true]

theorem clearIf_of_set (h : mask.getLsbD n = true) : clearIf mask n part acc = clearPart n part acc := if_pos h

/-- A part sets its own bit exactly where it reports CONDITION_PRESENT. -/
theorem clearPart_getLsbD_self (hn : n < 16) (h : acc.1.getLsbD n = false) :
    (clearPart n part acc).1.getLsbD n = (part acc.2).1 := by
  rw [clearPart]
  cases (part acc.2).1 with
  | false => exact h
  | true => simp [hn]

/-- A part leaves the bits of the others. -/
theorem clearIf_getLsbD_of_ne (h : n ≠ k) : (clearIf mask n part acc).1.getLsbD k = acc.1.getLsbD k := by
  cases hset : mask.getLsbD n with
  | false => rw [clearIf_of_unset hset]
  | true =>
    rw [clearIf_of_set hset, clearPart]
    cases (part acc.2).1 <;> simp [h, BitVec.getLsbD_twoPow]

/-- A part that the mask does not name leaves the state, and its bit stays clear. -/
theorem clearIf_unset_spec (hn : acc.1.getLsbD n = false) (h : mask.getLsbD n = false) :
    (clearIf mask n part acc).2 = acc.2 ∧ (clearIf mask n part acc).1.getLsbD n = false := by
  rw [clearIf_of_unset h]
  exact ⟨rfl, hn⟩

/-- A part that the mask names acts on the state before it, and its bit is its report. -/
theorem clearIf_set_spec (hlt : n < 16) (hn : acc.1.getLsbD n = false) (h : mask.getLsbD n = true) :
    (clearIf mask n part acc).2 = (part acc.2).2 ∧
      (clearIf mask n part acc).1.getLsbD n = (part acc.2).1 := by
  rw [clearIf_of_set h]
  exact ⟨rfl, clearPart_getLsbD_self hlt hn⟩

end Part

/-! ### The chain of parts (R162, log entry 25) -/

section Chain

variable (mask : Word) (s : State)

/-- The mask of reports and the state after the FENCES part. -/
def afterFences : Word × State := clearIf mask 0 State.clearFences (0, s)

/-- The mask of reports and the state after the RAIL part. -/
def afterRail : Word × State := clearIf mask 1 State.clearRail (afterFences mask s)

/-- The mask of reports and the state after the SURGE part. -/
def afterSurge : Word × State := clearIf mask 2 State.clearSurge (afterRail mask s)

/-- The mask of reports and the state after the LEASE part, which is the last. -/
def afterLease : Word × State := clearIf mask 3 State.clearLease (afterSurge mask s)

/-- Until its part acts a bit is clear. -/
theorem afterFences_getLsbD_of_ne {k : Nat} (h0 : 0 ≠ k) : (afterFences mask s).1.getLsbD k = false := by
  rw [afterFences, clearIf_getLsbD_of_ne h0]
  exact BitVec.getLsbD_zero

theorem afterRail_getLsbD_of_ne {k : Nat} (h0 : 0 ≠ k) (h1 : 1 ≠ k) : (afterRail mask s).1.getLsbD k = false := by
  rw [afterRail, clearIf_getLsbD_of_ne h1, afterFences_getLsbD_of_ne _ _ h0]

theorem afterSurge_getLsbD_of_ne {k : Nat} (h0 : 0 ≠ k) (h1 : 1 ≠ k) (h2 : 2 ≠ k) :
    (afterSurge mask s).1.getLsbD k = false := by
  rw [afterSurge, clearIf_getLsbD_of_ne h2, afterRail_getLsbD_of_ne _ _ h0 h1]

/-- The bit of each part outlives the parts after it. -/
theorem afterLease_getLsbD_two : (afterLease mask s).1.getLsbD 2 = (afterSurge mask s).1.getLsbD 2 :=
  clearIf_getLsbD_of_ne (by decide)

theorem afterLease_getLsbD_one : (afterLease mask s).1.getLsbD 1 = (afterRail mask s).1.getLsbD 1 := by
  rw [afterLease, clearIf_getLsbD_of_ne (by decide), afterSurge, clearIf_getLsbD_of_ne (by decide)]

theorem afterLease_getLsbD_zero : (afterLease mask s).1.getLsbD 0 = (afterFences mask s).1.getLsbD 0 := by
  rw [afterLease, clearIf_getLsbD_of_ne (by decide), afterSurge, clearIf_getLsbD_of_ne (by decide), afterRail,
    clearIf_getLsbD_of_ne (by decide)]

/-- No part sets a bit above its four. -/
theorem afterLease_le : (afterLease mask s).1.toNat ≤ 15 := by
  refine Nat.le_of_lt_succ (Nat.lt_pow_two_of_testBit (n := 4) _ fun i hi => ?_)
  rw [BitVec.testBit_toNat, afterLease, clearIf_getLsbD_of_ne (by omega),
    afterSurge_getLsbD_of_ne _ _ (by omega) (by omega) (by omega)]

end Chain

/-! ### The frames (R157, R162) -/

/-- The end of a CLEAR frame whose parts gave the mask and state `r`. -/
theorem clearReply_ended (r : Word × State) :
    (clearReply r).ended = ends r.2 (if r.1 = 0 then .done else .conditionPresent) r.1 := rfl

theorem exec_clear {s : State} (h : takesFrames s) (mask : Word) :
    exec (.clear mask) s = .next (s.clear mask).ended := by
  change execClear mask s = _
  rw [execClear, State.frame_taken _ h]

theorem exec_clear_of_gt {s : State} (h : takesFrames s) {mask : Word} (hmask : 15 < mask.toNat) :
    exec (.clear mask) s = .next (ends s .invalid 0) := by
  rw [exec_clear h, State.clear, if_neg fun hle => absurd ((and_highBits_eq_zero_iff mask).1 hle) (by omega)]
  rfl

theorem exec_clear_of_le {s : State} (h : takesFrames s) {mask : Word} (hmask : mask.toNat ≤ 15) :
    exec (.clear mask) s = .next (ends (afterLease mask s).2
      (if (afterLease mask s).1 = 0 then .done else .conditionPresent) (afterLease mask s).1) := by
  rw [exec_clear h, State.clear, if_pos ((and_highBits_eq_zero_iff mask).2 hmask), clearReply_ended]
  rfl

/-- The end of a CLEAR frame of one part: CONDITION_PRESENT with the part's bit where the part reports it, DONE
otherwise. -/
theorem clearPart_ended {n : Nat} (hn : n < 16) (part : State → Bool × State) (s : State) :
    (clearReply (clearPart n part (0, s))).ended =
      if (part s).1 = true then ends (part s).2 .conditionPresent (BitVec.twoPow 16 n)
      else ends (part s).2 .done 0 := by
  have hbit : BitVec.twoPow 16 n ≠ 0#16 := fun h => by
    have hself := congrArg (BitVec.getLsbD · n) h
    simp [hn] at hself
  rw [clearReply_ended, clearPart]
  cases (part s).1 with
  | false => rfl
  | true =>
    change ends _ (if 0#16 ||| BitVec.twoPow 16 n = 0#16 then .done else .conditionPresent)
      (0#16 ||| BitVec.twoPow 16 n) = ends _ .conditionPresent _
    rw [BitVec.zero_or, if_neg hbit]

theorem frame_clearPart {s : State} (h : takesFrames s) {n : Nat} (hn : n < 16) (part : State → Bool × State) :
    (s.frame fun s => clearReply (clearPart n part (0, s))) = .next
      (if (part s).1 = true then ends (part s).2 .conditionPresent (BitVec.twoPow 16 n)
      else ends (part s).2 .done 0) := by
  rw [State.frame_taken _ h, clearPart_ended hn]

theorem exec_clearFences {s : State} (h : takesFrames s) :
    exec .clearFences s = .next (if s.clearFences.1 = true then ends s.clearFences.2 .conditionPresent 1
      else ends s.clearFences.2 .done 0) := frame_clearPart h (by decide) State.clearFences

theorem exec_clearRail {s : State} (h : takesFrames s) :
    exec .clearRail s = .next (if s.clearRail.1 = true then ends s.clearRail.2 .conditionPresent 2
      else ends s.clearRail.2 .done 0) := frame_clearPart h (by decide) State.clearRail

theorem exec_clearSurge {s : State} (h : takesFrames s) :
    exec .clearSurge s = .next (if s.clearSurge.1 = true then ends s.clearSurge.2 .conditionPresent 4
      else ends s.clearSurge.2 .done 0) := frame_clearPart h (by decide) State.clearSurge

theorem exec_clearLease {s : State} (h : takesFrames s) :
    exec .clearLease s = .next (if s.clearLease.1 = true then ends s.clearLease.2 .conditionPresent 8
      else ends s.clearLease.2 .done 0) := frame_clearPart h (by decide) State.clearLease

/-! ### The four parts (R132, R136, R140, R148) -/

/-- The control side after CLEAR's FENCES part (R132). -/
def tripsCleared (c : Ctl) : Ctl := c.mapZones (ZoneRec.clearTrip c.channels)

theorem clearFences_state (s : State) : s.clearFences.2 = follows s none (tripsCleared s.ctl) := rfl

theorem clearFences_report (s : State) :
    s.clearFences.1 = true ↔ ¬ ∀ z : ZoneIx, (tripsCleared s.ctl).zones[z].monitor.tripped = false := by
  change (List.finRange 8).any (fun z => (tripsCleared s.ctl).zones[z].monitor.tripped) = true ↔ _
  simp only [List.any_eq_true, List.mem_finRange, true_and, Classical.not_forall, Bool.not_eq_false]

/-- A zone's trip is released exactly where the statements say so. -/
theorem tripsCleared_zone (c : Ctl) (z : ZoneIx) [Decidable (clearReleases c z)] :
    (tripsCleared c).zones[z] = if clearReleases c z then
      { c.zones[z] with monitor := { c.zones[z].monitor with tripped := false, overRun := 0 } } else c.zones[z] := by
  rw [tripsCleared, Ctl.zones_mapZones, ZoneRec.clearTrip]
  cases hsensor : c.zones[z].control.sensor with
  | none =>
    have hnot : ¬ clearReleases c z := fun ⟨_, ch, hch, _⟩ => Option.some_ne_none ch (hch.symm.trans hsensor)
    exact (if_neg hnot).symm
  | some ch =>
    refine ite_congr (propext ?_) (fun _ => rfl) fun _ => rfl
    simp only [clearReleases, hsensor, Option.some.injEq, exists_eq_left', Bool.and_eq_true, decide_eq_true_eq,
      and_assoc]
    exact Iff.rfl

/-- The LEASE part on a violated lease: it stops, and LEASE leaves the fallback causes (R148). -/
theorem clearLease_of_violated {s : State} (h : s.ctl.lease.state = .violated) :
    s.clearLease = (false, { s with
      ctl := { s.ctl with
        lease := { s.ctl.lease with state := .stopped, timer := 0, micros := 0, kind := .none }
        zones := s.ctl.zones.map fun z =>
          { z with control := entered { z.control with causeLease := false } } } }) := by
  simp only [State.clearLease, h, ← resource_eq_entered]
  rfl

theorem clearLease_of_not_violated {s : State} (h : s.ctl.lease.state ≠ .violated) : s.clearLease = (false, s) := by
  rw [State.clearLease]
  cases hl : s.ctl.lease.state with
  | violated => exact absurd hl h
  | stopped | waiting | openWindow => rfl

/-! ### The statement -/

/-- Settles O50: the rows are the parts, and in a mask of several each part's bit outlives the parts after it. -/
theorem clearActsOnItsParts : Obligations.ClearActsOnItsParts := by
  unfold Obligations.ClearActsOnItsParts
  intro s h
  refine ⟨fun mask => exec_clear_of_gt h, ?_, rfl, rfl, rfl, rfl, ?_, ?_, ?_, ?_, fun mask hmask => ?_⟩
  · rw [exec_clear_of_le h (by decide)]
    rfl
  · refine ⟨tripsCleared s.ctl, rfl, fun z => ⟨fun hz => ?_, fun hz => ?_⟩, fun hnone => ?_, fun hsome => ?_⟩
    · classical rw [tripsCleared_zone, if_pos hz]
    · classical rw [tripsCleared_zone, if_neg hz]
    · rw [exec_clearFences h, if_neg fun hr => (clearFences_report s).1 hr hnone, clearFences_state]
    · rw [exec_clearFences h, if_pos ((clearFences_report s).2 hsome), clearFences_state]
  · rw [exec_clearRail h, State.clearRail]
    cases hr : s.ctl.railState with
    | recoveredLatched | lost | idle | good | filtering n => rfl
  · rw [exec_clearSurge h, State.clearSurge]
    cases hs : s.ctl.surgeState with
    | tripped => cases s.ctl.surgeAsserted <;> rfl
    | idle | armed | filtering n => rfl
  · rw [exec_clearLease h]
    by_cases hl : s.ctl.lease.state = .violated
    · rw [clearLease_of_violated hl, if_pos hl]
      rfl
    · rw [clearLease_of_not_violated hl, if_neg hl]
      rfl
  · refine ⟨(afterFences mask s).2, (afterRail mask s).2, (afterSurge mask s).2, (afterLease mask s).2,
      (afterLease mask s).1, ?_⟩
    have hrail := afterFences_getLsbD_of_ne mask s (k := 1) (by decide)
    have hsurge := afterRail_getLsbD_of_ne mask s (k := 2) (by decide) (by decide)
    have hlease := afterSurge_getLsbD_of_ne mask s (k := 3) (by decide) (by decide) (by decide)
    rw [afterLease_getLsbD_zero, afterLease_getLsbD_one, afterLease_getLsbD_two]
    exact ⟨clearIf_unset_spec BitVec.getLsbD_zero, clearIf_set_spec (by decide) BitVec.getLsbD_zero,
      clearIf_unset_spec hrail, clearIf_set_spec (by decide) hrail,
      clearIf_unset_spec hsurge, clearIf_set_spec (by decide) hsurge,
      clearIf_unset_spec hlease, clearIf_set_spec (by decide) hlease,
      afterLease_le mask s, exec_clear_of_le h hmask⟩

end Sys2Proof.Clearing

/-! PROOF. The setpoint lease (R143, R145 to R148): what each of its events does in each lease state. The race of a
renewal and the close time follows from the rows: a renewed timer stands at 0, and a violated lease stays violated. -/

namespace Sys2Proof.Leasing

open Sys2Proof.Machine Sys2Proof.Claims Sys2Proof.Periods

section Events

variable {s : State}

/-! ### The lease record (R143, R147) -/

/-- The value that a frame reports after a start or a renewal (R145, R161). -/
theorem started_code (l : Lease) : l.started.state.code = if l.openTime = 0 then 2 else 1 :=
  apply_ite LeaseState.code _ _ _

theorem justStarted_iff (l : Lease) : l.justStarted = true ↔ l.timer = 0 ∧ l.micros = 0 := by
  simp [Lease.justStarted]

/-- A violation is the statements' own, with the timer where it stands. -/
theorem violate_eq_violated (s : State) (k : ViolationKind) :
    s.violate k = violated s k s.ctl.lease.timer s.ctl.lease.micros := by
  simp only [State.violate, violated, Control.addLease, resource_eq_entered]
  cases s.ctl.lease.response with
  | report | fallback => rfl

/-! ### The two times (R145, R147) -/

theorem exec_leaseOpenTime_of_waiting (h : s.ctl.lease.state = .waiting) :
    exec .leaseOpenTime s = .next
      (s.withLease { s.ctl.lease with state := .openWindow, timer := s.ctl.lease.openTime, micros := 0 }) := by
  change execLeaseOpenTime s = _
  rw [execLeaseOpenTime, h]

theorem exec_leaseOpenTime_of_not_waiting (h : s.ctl.lease.state ≠ .waiting) : exec .leaseOpenTime s = .next s := by
  change execLeaseOpenTime s = _
  rw [execLeaseOpenTime]
  cases hl : s.ctl.lease.state with
  | waiting => exact absurd hl h
  | stopped | openWindow | violated => rfl

theorem exec_leaseCloseTime_of_not_openWindow (h : s.ctl.lease.state ≠ .openWindow) :
    exec .leaseCloseTime s = .next s := by
  change execLeaseCloseTime s = _
  rw [execLeaseCloseTime]
  cases hl : s.ctl.lease.state with
  | openWindow => exact absurd hl h
  | stopped | waiting | violated => rfl

/-- On a timer that has just restarted the close time is no event, whatever the lease state (log entry 2). -/
theorem exec_leaseCloseTime_of_justStarted (h : s.ctl.lease.timer = 0 ∧ s.ctl.lease.micros = 0) :
    exec .leaseCloseTime s = .next s := by
  by_cases hl : s.ctl.lease.state = .openWindow
  · change execLeaseCloseTime s = _
    simp only [execLeaseCloseTime, hl, if_pos ((justStarted_iff _).2 h)]
  · exact exec_leaseCloseTime_of_not_openWindow hl

/-- A renewal that comes too late: the lease is violated with its timer at close time (log entry 18). -/
theorem exec_leaseCloseTime_of_openWindow (h : s.ctl.lease.state = .openWindow)
    (hrun : ¬ (s.ctl.lease.timer = 0 ∧ s.ctl.lease.micros = 0)) :
    exec .leaseCloseTime s = .next (violated s .late s.ctl.lease.closeTime 0) := by
  change execLeaseCloseTime s = _
  simp only [execLeaseCloseTime, h, if_neg fun hj => hrun ((justStarted_iff _).1 hj), violate_eq_violated]
  rfl

/-! ### The frames (R157, R161) -/

/-- The end of a lease frame that gave the status and state `r`. -/
theorem leaseReply_ended (r : Status × State) :
    (leaseReply r).ended = ends r.2 r.1 r.2.ctl.lease.state.code := rfl

/-- The end of a lease frame that gave the status `st` and the state `u`, whose lease state has code `v`. -/
theorem frame_leaseReply (h : takesFrames s) {f : State → Status × State} {st : Status} {u : State} {v : Word}
    (hf : f s = (st, u)) (hv : u.ctl.lease.state.code = v) :
    (s.frame fun s => leaseReply (f s)) = .next (ends u st v) := by
  rw [State.frame_taken _ h, leaseReply_ended, hf, hv]

/-- A frame that leaves the state reports the lease state that it finds. -/
theorem frame_leaseReply_unchanged (h : takesFrames s) {f : State → Status × State} {st : Status} {x : LeaseState}
    (hl : s.ctl.lease.state = x) (hf : f s = (st, s)) :
    (s.frame fun s => leaseReply (f s)) = .next (ends s st x.code) :=
  frame_leaseReply h hf (congrArg LeaseState.code hl)

/-! ### LEASE_START (R145) -/

theorem exec_leaseStart_of_stopped (h : takesFrames s) (hl : s.ctl.lease.state = .stopped) :
    exec .leaseStart s = .next (ends (s.withLease s.ctl.lease.started) .done
      (if s.ctl.lease.openTime = 0 then 2 else 1)) :=
  frame_leaseReply h (f := State.leaseStart) (by rw [State.leaseStart, hl]) (started_code _)

/-- A lease that is not stopped refuses the start. -/
theorem exec_leaseStart_of_not_stopped (h : takesFrames s) (hl : s.ctl.lease.state ≠ .stopped) :
    exec .leaseStart s = .next (ends s .busy s.ctl.lease.state.code) := by
  refine frame_leaseReply_unchanged h (f := State.leaseStart) rfl ?_
  rw [State.leaseStart]
  cases hx : s.ctl.lease.state with
  | stopped => exact absurd hx hl
  | waiting | openWindow | violated => rfl

/-! ### LEASE_RENEW (R146) -/

theorem exec_leaseRenew_of_openWindow (h : takesFrames s) (hl : s.ctl.lease.state = .openWindow) :
    exec .leaseRenew s = .next (ends (s.withLease s.ctl.lease.started) .done
      (if s.ctl.lease.openTime = 0 then 2 else 1)) :=
  frame_leaseReply h (f := State.leaseRenew) (by rw [State.leaseRenew, hl]) (started_code _)

/-- A renewal before the open time is a violation (R147). -/
theorem exec_leaseRenew_of_waiting (h : takesFrames s) (hl : s.ctl.lease.state = .waiting) :
    exec .leaseRenew s = .next
      (ends (violated s .early s.ctl.lease.timer s.ctl.lease.micros) .conditionPresent 3) :=
  frame_leaseReply h (f := State.leaseRenew) (by rw [State.leaseRenew, hl, violate_eq_violated]) rfl

theorem exec_leaseRenew_of_violated (h : takesFrames s) (hl : s.ctl.lease.state = .violated) :
    exec .leaseRenew s = .next (ends s .conditionPresent 3) :=
  frame_leaseReply_unchanged h (f := State.leaseRenew) hl (by rw [State.leaseRenew, hl])

theorem exec_leaseRenew_of_stopped (h : takesFrames s) (hl : s.ctl.lease.state = .stopped) :
    exec .leaseRenew s = .next (ends s .invalid 0) :=
  frame_leaseReply_unchanged h (f := State.leaseRenew) hl (by rw [State.leaseRenew, hl])

/-! ### LEASE_STOP (R148) -/

/-- A running lease stops. -/
theorem exec_leaseStop_of_running (h : takesFrames s)
    (hl : s.ctl.lease.state = .waiting ∨ s.ctl.lease.state = .openWindow) :
    exec .leaseStop s = .next (ends (s.withLease s.ctl.lease.stopped) .done 0) :=
  frame_leaseReply h (f := State.leaseStop) (by rcases hl with hl | hl <;> rw [State.leaseStop, hl]) rfl

theorem exec_leaseStop_of_stopped (h : takesFrames s) (hl : s.ctl.lease.state = .stopped) :
    exec .leaseStop s = .next (ends s .done 0) :=
  frame_leaseReply_unchanged h (f := State.leaseStop) hl (by rw [State.leaseStop, hl])

theorem exec_leaseStop_of_violated (h : takesFrames s) (hl : s.ctl.lease.state = .violated) :
    exec .leaseStop s = .next (ends s .busy 3) :=
  frame_leaseReply_unchanged h (f := State.leaseStop) hl (by rw [State.leaseStop, hl])

/-! ### A renewal against the close time (R146, R147) -/

/-- The renewal taken first restarts the timer, so the close time after it violates nothing. -/
theorem exec_leaseCloseTime_after_renewal (h : takesFrames s) (hl : s.ctl.lease.state = .openWindow) :
    ∃ t, exec .leaseRenew s = .next t ∧ exec .leaseCloseTime t = .next t :=
  ⟨_, exec_leaseRenew_of_openWindow h hl, exec_leaseCloseTime_of_justStarted ⟨rfl, rfl⟩⟩

/-- The close time taken first violates the lease, and the renewal after it finds it so. -/
theorem exec_leaseRenew_after_closeTime (h : takesFrames s) (hl : s.ctl.lease.state = .openWindow)
    (hrun : ¬ (s.ctl.lease.timer = 0 ∧ s.ctl.lease.micros = 0)) :
    ∃ t, exec .leaseCloseTime s = .next t ∧ exec .leaseRenew t = .next (ends t .conditionPresent 3) := by
  have hframes : takesFrames (violated s .late s.ctl.lease.closeTime 0) := h
  exact ⟨_, exec_leaseCloseTime_of_openWindow hl hrun, exec_leaseRenew_of_violated hframes rfl⟩

end Events

/-! ### The statement -/

/-- Settles O35: each event by the lease state that it finds. -/
theorem leaseTable : Obligations.LeaseTable := by
  unfold Obligations.LeaseTable
  intro s
  refine ⟨exec_leaseOpenTime_of_waiting, exec_leaseOpenTime_of_not_waiting, exec_leaseCloseTime_of_openWindow,
    fun _ ht hm => exec_leaseCloseTime_of_justStarted ⟨ht, hm⟩,
    fun h hl => ⟨exec_leaseCloseTime_after_renewal h hl, exec_leaseRenew_after_closeTime h hl⟩,
    exec_leaseCloseTime_of_not_openWindow, fun h => ?_⟩
  have hbusy := exec_leaseStart_of_not_stopped h
  cases hl : s.ctl.lease.state with
  | stopped =>
    exact ⟨exec_leaseStart_of_stopped h hl, exec_leaseRenew_of_stopped h hl, exec_leaseStop_of_stopped h hl⟩
  | waiting =>
    rw [hl] at hbusy
    exact ⟨hbusy LeaseState.noConfusion, exec_leaseRenew_of_waiting h hl, exec_leaseStop_of_running h (.inl hl)⟩
  | openWindow =>
    rw [hl] at hbusy
    exact ⟨hbusy LeaseState.noConfusion, exec_leaseRenew_of_openWindow h hl, exec_leaseStop_of_running h (.inr hl)⟩
  | violated =>
    rw [hl] at hbusy
    exact ⟨hbusy LeaseState.noConfusion, exec_leaseRenew_of_violated h hl, exec_leaseStop_of_violated h hl⟩

end Sys2Proof.Leasing

/-! PROOF. The management link's frames (R156 to R160, R163, R176): the queue that they reach, the bits that cross SDI
and SDO, and the frames that touch no more than the link. -/

namespace Sys2Proof.Frames

open Sys2Proof.Machine Sys2Proof.Claims Sys2Proof.Laws

/-! ### The queue (log entries 1 and 21) -/

theorem step_cons (c : Instr) (rest : List Instr) (s : State) :
    step { s with pending := c :: rest } = exec c { s with pending := rest } := rfl

/-- Settles O1: a word of 32 bits stands at the front as the command that it carries. -/
theorem stepTakesTheFrontCommand : Obligations.StepTakesTheFrontCommand := by
  unfold Obligations.StepTakesTheFrontCommand
  refine ⟨step_cons, fun w s => ?_, fun nbits w s => withFetchWord_other s w⟩
  rw [withFetchWord_frame, step_cons]

/-! ### The inbound bits (R156, section 10.2) -/

section Inbound

variable (code a : BitVec 8) (v : Word)

@[simp] theorem frameCode_frameWord : frameCode (frameWord code a v) = code := by
  rw [frameCode, frameWord, BitVec.extractLsb'_append_eq_of_le (by decide), BitVec.extractLsb'_append_eq_left]

@[simp] theorem frameArg_frameWord : frameArg (frameWord code a v) = a := by
  rw [frameArg, frameWord, BitVec.extractLsb'_append_eq_of_le (by decide), BitVec.extractLsb'_append_eq_right]

@[simp] theorem frameValue_frameWord : frameValue (frameWord code a v) = v := BitVec.extractLsb'_append_eq_right

end Inbound

/-- A code that is not in the table is none of the codes that `commandOfFrame` asks for (R160). -/
theorem commandOfFrame_unknown {w : BitVec 32} (h : frameCode w ∉ frameCodes) :
    commandOfFrame w = .unknown (frameCode w) := by
  simp only [frameCodes, List.mem_cons, List.not_mem_nil, or_false, not_or] at h
  simp only [commandOfFrame, h, if_false]

/-! ### NOP and UNKNOWN (R160) -/

theorem exec_nop {s : State} (h : takesFrames s) : exec .nop s = .next (ends s .done 0) := State.frame_taken _ h

theorem exec_unknown {s : State} {code : BitVec 8} (hcode : code ∉ frameCodes) (h : takesFrames s) :
    exec (.unknown code) s = .next (ends s .unknown 0) := by
  change execUnknown code s = _
  rw [execUnknown, if_neg (mt List.contains_iff_mem.1 hcode), State.frame_taken _ h]
  rfl

/-- Settles O41: the frame's bits give its command by its code alone, and the two frames that do nothing end at once. -/
theorem nopAndUnknownActOnNothing : Obligations.NopAndUnknownActOnNothing := by
  unfold Obligations.NopAndUnknownActOnNothing
  refine ⟨fun s => exec_nop, fun code s => exec_unknown, rfl, fun w => rfl,
    fun code a v => ⟨frameCode_frameWord code a v, frameArg_frameWord code a v, frameValue_frameWord code a v⟩,
    fun w => commandOfFrame_unknown, by decide, by decide, fun a v => ?_⟩
  simp [commandOfFrame]

/-! ### The pointer (R163) -/

/-- The object that a class code and an index name has them as its name (R163). -/
theorem nameOf_of_objectOf {cls : BitVec 8} {n : Word} {o : ObjRef} (h : objectOf cls n = some o) :
    nameOf o = (cls.toNat, n.toNat) := by
  simp only [objectOf] at h
  repeat' split at h
  all_goals cases h
  all_goals simp_all [nameOf]

/-- An object's name names it (R163). -/
theorem objectOf_of_nameOf {cls : BitVec 8} {n : Word} {o : ObjRef} (h : nameOf o = (cls.toNat, n.toNat)) :
    objectOf cls n = some o := by
  have hcls : cls = BitVec.ofNat 8 (nameOf o).1 := by rw [h, BitVec.ofNat_toNat, BitVec.setWidth_eq]
  have hn : n.toNat = (nameOf o).2 := by rw [h]
  cases o <;> simp [objectOf, nameOf, hcls, hn]

theorem word_index (o : ObjRef) : word o.index = BitVec.ofNat 16 (nameOf o).2 := by cases o <;> rfl

theorem exec_selectObject {s : State} (h : takesFrames s) (cls : BitVec 8) (n : Word) :
    exec (.selectObject cls n) s = .next (s.selectObject cls n).ended :=
  State.frame_taken (fun s => s.selectObject cls n) h

theorem exec_selectObject_named {s : State} (h : takesFrames s) {cls : BitVec 8} {n : Word} {o : ObjRef}
    (ho : nameOf o = (cls.toNat, n.toNat)) :
    exec (.selectObject cls n) s = .next { s with
      link := { frameEnd s.link .done n with object := o, field := 0 } } := by
  have hindex : word o.index = n := by rw [word_index, ho, BitVec.ofNat_toNat, BitVec.setWidth_eq]
  rw [exec_selectObject h, State.selectObject, objectOf_of_nameOf ho, ← hindex]
  rfl

theorem exec_selectObject_unnamed {s : State} (h : takesFrames s) {cls : BitVec 8} {n : Word}
    (hno : ∀ o, nameOf o ≠ (cls.toNat, n.toNat)) :
    exec (.selectObject cls n) s = .next (ends s .invalid (BitVec.ofNat 16 (nameOf s.link.object).2)) := by
  have hnone : objectOf cls n = none :=
    Option.eq_none_iff_forall_ne_some.2 fun o ho => hno o (nameOf_of_objectOf ho)
  rw [exec_selectObject h, State.selectObject, hnone, ← word_index]
  rfl

theorem exec_selectField {s : State} (h : takesFrames s) (n : Word) :
    exec (.selectField n) s = .next (s.selectField n).ended :=
  State.frame_taken (fun s => s.selectField n) h

/-- Settles O42: SELECT_OBJECT by whether the object exists, SELECT_FIELD by the size of the number. -/
theorem selectMovesThePointer : Obligations.SelectMovesThePointer := by
  unfold Obligations.SelectMovesThePointer
  refine fun cls n s h => ⟨fun o => exec_selectObject_named h, exec_selectObject_unnamed h, fun hn => ?_, fun hn => ?_⟩
  · rw [exec_selectField h, State.selectField, if_pos hn]
    rfl
  · rw [exec_selectField h, State.selectField, if_neg (Nat.not_le.2 hn)]
    rfl

/-! ### The outbound bits (R158) -/

section Outbound

/-- Two words of flags share a set bit exactly where their conjunction is not 0. -/
theorem and_ne_zero_iff {w : Nat} (x y : BitVec w) :
    (x &&& y != 0#w) = true ↔ ∃ n, x.getLsbD n = true ∧ y.getLsbD n = true := by
  have hzero : x &&& y = 0#w ↔ ∀ n, ¬ (x.getLsbD n = true ∧ y.getLsbD n = true) := by
    refine ⟨fun h n hn => ?_, fun h => BitVec.eq_of_getLsbD_eq fun n _ => ?_⟩
    · have hbit := congrArg (BitVec.getLsbD · n) h
      simp [hn] at hbit
    · simpa using h n
  rw [bne_iff_ne, Ne, hzero, Classical.not_forall]
  exact exists_congr fun n => Classical.not_not

theorem alertLow_iff (s : State) :
    s.alertLow = true ↔ ∃ n, s.traffic.flags.getLsbD n = true ∧ s.ctl.eventMask.getLsbD n = true :=
  and_ne_zero_iff _ _

theorem anyFenced_iff (c : Ctl) : c.anyFenced = true ↔ ∃ z, c.fenced z = true := by simp [Ctl.anyFenced]

theorem notRun_iff (c : Ctl) : c.notRun = true ↔ c.governor ≠ .run := by
  rw [Ctl.notRun, Ctl.freezeActive]
  cases c.governor <;> simp

theorem railActive_iff (c : Ctl) : c.railActive = true ↔ c.railState = .lost ∨ c.railState = .recoveredLatched := by
  rw [Ctl.railActive]
  cases c.railState <;> simp

theorem surgeActive_iff (c : Ctl) : c.surgeActive = true ↔ c.surgeState = .tripped := by
  rw [Ctl.surgeActive]
  cases c.surgeState <;> simp

theorem holdActive_iff (c : Ctl) : (c.railActive || c.surgeActive) = true ↔
    c.railState = .lost ∨ c.railState = .recoveredLatched ∨ c.surgeState = .tripped := by
  rw [Bool.or_eq_true, railActive_iff, surgeActive_iff, or_assoc]

variable (s : State)

theorem outboundWord_value : s.outboundWord.extractLsb' 16 16 = s.link.value := by
  rw [State.outboundWord, BitVec.extractLsb'_append_eq_of_le (by decide),
    BitVec.extractLsb'_append_eq_of_le (by decide), BitVec.extractLsb'_append_eq_left]

theorem outboundWord_status : s.outboundWord.extractLsb' 8 8 = s.link.status.code := by
  rw [State.outboundWord, BitVec.extractLsb'_append_eq_of_le (by decide),
    BitVec.extractLsb'_append_eq_of_le (by decide), BitVec.extractLsb'_append_eq_right]

theorem outboundWord_frameCount : s.outboundWord.extractLsb' 4 4 = s.link.frameCount := by
  rw [State.outboundWord, BitVec.extractLsb'_append_eq_of_le (by decide), BitVec.extractLsb'_append_eq_right]

/-- Four conditions put together, read bit by bit. -/
theorem getLsbD_fourBools (a b c d : Bool) :
    let w : BitVec 4 := BitVec.ofBool a ++ BitVec.ofBool b ++ BitVec.ofBool c ++ BitVec.ofBool d
    w.getLsbD 3 = a ∧ w.getLsbD 2 = b ∧ w.getLsbD 1 = c ∧ w.getLsbD 0 = d := by
  revert a b c d
  decide

/-- The summary bits are alert, fence, governor and hold (R158). -/
theorem summary_getLsbD :
    s.summary.getLsbD 3 = s.alertLow ∧ s.summary.getLsbD 2 = s.ctl.anyFenced ∧
      s.summary.getLsbD 1 = s.ctl.notRun ∧ s.summary.getLsbD 0 = (s.ctl.railActive || s.ctl.surgeActive) :=
  getLsbD_fourBools _ _ _ _

theorem outboundWord_summary {k : Nat} (h : k < 4) : s.outboundWord.getLsbD k = s.summary.getLsbD k := by
  rw [State.outboundWord, BitVec.getLsbD_append, if_pos h]

end Outbound

/-! ### CS_N (R156, R158, R159, R176) -/

section Boundaries

variable {s : State}

theorem exec_csNAssert_of_asserted (h : s.link.csAsserted = true) : exec .csNAssert s = .next s := if_pos h

theorem exec_csNAssert_of_released (h : s.link.csAsserted = false) :
    exec .csNAssert s =
      .next { s with link := { s.link with csAsserted := true, outbound := some s.outboundWord } } :=
  if_neg (Bool.eq_false_iff.1 h)

/-- The assertion of CS_N neither reads the queue nor changes it. -/
theorem exec_csNAssert_pending (s : State) : ∃ t, exec .csNAssert s = .next t ∧ t.pending = s.pending ∧
    ∀ q, exec .csNAssert { s with pending := q } = .next { t with pending := q } := by
  cases h : s.link.csAsserted with
  | true => exact ⟨s, exec_csNAssert_of_asserted h, rfl, fun q => exec_csNAssert_of_asserted h⟩
  | false => exact ⟨_, exec_csNAssert_of_released h, rfl, fun q => exec_csNAssert_of_released h⟩

/-- SDO is driven only while CS_N is asserted (R156). -/
theorem sdo_of_released (h : s.link.csAsserted = false) (n : Nat) : s.link.sdo n = none :=
  if_neg (Bool.eq_false_iff.1 h)

/-- SDO is driven only in a frame (log entry 32). -/
theorem sdo_of_no_frame (h : s.link.outbound = none) (n : Nat) : s.link.sdo n = none := by
  rw [Link.sdo, h, Option.map_none, ite_self]

theorem exec_powerOnCsNRelease_of_waiting (h : s.link.awaitRelease = true) :
    exec .powerOnCsNRelease s = .next s.csReleased := if_pos h

theorem exec_powerOnCsNRelease_of_taking (h : takesFrames s) : exec .powerOnCsNRelease s = .next s :=
  if_neg (Bool.eq_false_iff.1 h)

/-- A waiting link takes the release of a broken frame as that of power-on (log entry 28). -/
theorem exec_frameError_of_waiting {n : Nat} (hn : n ≠ 32) (h : s.link.awaitRelease = true) :
    exec (.frameError n) s = .next s.csReleased := by
  change execFrameError n s = _
  rw [execFrameError, if_neg hn, if_pos h]

theorem exec_frameError_of_taking {n : Nat} (hn : n ≠ 32) (h : takesFrames s) :
    exec (.frameError n) s = .next { s with
      traffic := { s.traffic with flags := s.traffic.flags ||| Event.frameError.mask }
      link := { s.link with
        status := .frameError
        value := 0
        csAsserted := false
        outbound := none
        frameErrors := satAdd s.link.frameErrors 1 } } := by
  change execFrameError n s = _
  rw [execFrameError, if_neg hn, if_neg (Bool.eq_false_iff.1 h)]
  rfl

/-- A frame put before the machine is its assertion of CS_N and then the command of its bits (log entry 6). -/
theorem step_withFrame (s : State) (sdi : List Bool) :
    ∃ t, exec .csNAssert s = .next t ∧
      step (s.withFrame sdi) = .next { t with pending := commandOfEdges sdi :: s.pending } ∧
      step { t with pending := commandOfEdges sdi :: s.pending } = exec (commandOfEdges sdi) t := by
  obtain ⟨t, ht, hpending, hqueue⟩ := exec_csNAssert_pending s
  refine ⟨t, ht, ?_, ?_⟩
  · rw [State.withFrame, step_cons, hqueue]
  · rw [step_cons, ← hpending]

end Boundaries

/-- Settles O39: each boundary of a frame by the levels that it meets, and the bits of SDI by their number. -/
theorem frameBoundaries : Obligations.FrameBoundaries := by
  unfold Obligations.FrameBoundaries
  refine ⟨⟨rfl, rfl, rfl, rfl, rfl, rfl, rfl⟩, fun s => ⟨exec_csNAssert_of_asserted, fun h => ?_, sdo_of_released,
    sdo_of_no_frame, exec_powerOnCsNRelease_of_waiting, exec_powerOnCsNRelease_of_taking,
    fun n hn => ⟨exec_frameError_of_waiting hn, exec_frameError_of_taking hn⟩,
    fun sdi => ⟨commandOfEdges_error, fun h => ?_, step_withFrame s sdi⟩⟩⟩
  · obtain ⟨halert, hfence, hgovernor, hhold⟩ := summary_getLsbD s
    refine ⟨s.outboundWord, exec_csNAssert_of_released h, outboundWord_value s, outboundWord_status s,
      outboundWord_frameCount s, ?_, ?_, ?_, ?_, fun n => rfl⟩
    · rw [outboundWord_summary s (by decide), halert, alertLow_iff]
    · rw [outboundWord_summary s (by decide), hfence, anyFenced_iff]
    · rw [outboundWord_summary s (by decide), hgovernor, notRun_iff]
    · rw [outboundWord_summary s (by decide), hhold, holdActive_iff]
  · exact ⟨captured sdi, commandOfEdges_frame h, fun n b => captured_getLsbD h⟩

end Sys2Proof.Frames

/-! PROOF. WRITE (R165): the checks between a field's existence and its value, what a value that passes stores, and the
rows named by the field that they write (log entry 7). -/

namespace Sys2Proof.FieldWrites

open Sys2Proof.Machine Sys2Proof.Claims Sys2Proof.MonitorModes

/-! ### Results that exist under a condition -/

/-- There is a result exactly where `P` holds, and it has the property `q`. -/
def Yields {α : Type} (o : Option α) (P : Prop) (q : α → Prop) : Prop := (o.isSome = true ↔ P) ∧ ∀ a ∈ o, q a

namespace Yields

variable {α β : Type} {o : Option α} {a : α} {P P' c : Prop} {q : α → Prop} {r : β → Prop}

theorem none (h : ¬ P) : Yields Option.none P q := ⟨by simpa using h, by simp⟩

theorem some (h : P) (ha : q a) : Yields (Option.some a) P q := ⟨by simpa using h, by simpa using ha⟩

theorem congr (h : Yields o P' q) (hP : P' ↔ P) : Yields o P q := ⟨h.1.trans hP, h.2⟩

theorem map (h : Yields o P q) {g : α → β} (hg : ∀ a, q a → r (g a)) : Yields (o.map g) P r := by
  refine ⟨by rw [Option.isSome_map, h.1], fun b hb => ?_⟩
  obtain ⟨a, ha, rfl⟩ := Option.map_eq_some_iff.1 hb
  exact hg a (h.2 a ha)

/-- One value of a decoder that asks for its values in turn. -/
theorem case [Decidable c] (ha : c → q a) (h : Yields o P q) :
    Yields (if c then Option.some a else o) (c ∨ P) q := by
  by_cases hc : c
  · rw [if_pos hc]
    exact some (.inl hc) (ha hc)
  · rw [if_neg hc]
    exact h.congr (or_iff_right hc).symm

theorem ite [Decidable c] (ha : c → q a) : Yields (if c then Option.some a else Option.none) c q :=
  (case ha (none id)).congr (by rw [or_false])

theorem bind (h : Yields o P q) {g : α → Option β} (hg : ∀ a, q a → Yields (g a) P' r) :
    Yields (o.bind g) (P ∧ P') r := by
  cases o with
  | none => exact none fun hP => by simpa using h.1.2 hP.1
  | some a => exact (hg a (h.2 a rfl)).congr (and_iff_right (h.1.1 rfl)).symm

end Yields

/-! ### Decoding of written values (section 10.4, R166) -/

section Decoders

variable {v : Word}

theorem word_toNat (v : Word) : word v.toNat = v := by rw [word, BitVec.ofNat_toNat, BitVec.setWidth_eq]

theorem natIn_yields {lo hi : Nat} : Yields (natIn lo hi v) (between lo hi v) (word · = v) :=
  .ite fun _ => word_toNat v

theorem intIn_yields {lo hi : Int} :
    Yields (intIn lo hi v) (signedBetween lo hi v) (fun x => x = v.toInt ∧ signedWord x = v) :=
  .ite fun _ => ⟨rfl, BitVec.ofInt_toInt⟩

theorem between_zero_one_iff : v = 0 ∨ v = 1 ↔ between 0 1 v := by unfold between; bv_omega

theorem between_zero_two_iff : v = 0 ∨ v = 1 ∨ v = 2 ↔ between 0 2 v := by unfold between; bv_omega

theorem between_zero_three_iff : v = 0 ∨ v = 1 ∨ v = 2 ∨ v = 3 ↔ between 0 3 v := by unfold between; bv_omega

theorem boolOf_yields : Yields (boolOf v) (between 0 1 v) (boolWord · = v) :=
  .congr (.case (fun h => h.symm) (.ite fun h => h.symm)) between_zero_one_iff

theorem attributeOf_yields : Yields (attributeOf v) (between 0 2 v) (Attribute.code · = v) :=
  .congr (.case (fun h => h.symm) (.case (fun h => h.symm) (.ite fun h => h.symm))) between_zero_two_iff

theorem policyOfWord_yields : Yields (policyOfWord v) (between 0 1 v) (Policy.code · = v) :=
  .congr (.case (fun h => h.symm) (.ite fun h => h.symm)) between_zero_one_iff

theorem monModeOf_yields : Yields (monModeOf v) (between 0 3 v) (MonMode.code · = v) :=
  .congr (.case (fun h => h.symm) (.case (fun h => h.symm) (.case (fun h => h.symm) (.ite fun h => h.symm))))
    between_zero_three_iff

theorem railModeOf_yields : Yields (railModeOf v) (between 0 2 v) (RailMode.code · = v) :=
  .congr (.case (fun h => h.symm) (.case (fun h => h.symm) (.ite fun h => h.symm))) between_zero_two_iff

theorem surgeModeOf_yields : Yields (surgeModeOf v) (between 0 2 v) (SurgeMode.code · = v) :=
  .congr (.case (fun h => h.symm) (.case (fun h => h.symm) (.ite fun h => h.symm))) between_zero_two_iff

theorem surgeFilterOf_yields : Yields (surgeFilterOf v) (between 0 3 v) (SurgeFilter.code · = v) :=
  .congr (.case (fun h => h.symm) (.case (fun h => h.symm) (.case (fun h => h.symm) (.ite fun h => h.symm))))
    between_zero_three_iff

theorem leaseResponseOf_yields : Yields (leaseResponseOf v) (between 0 1 v) (LeaseResponse.code · = v) :=
  .congr (.case (fun h => h.symm) (.ite fun h => h.symm)) between_zero_one_iff

theorem zoneOf_of_lt (h : v.toNat < 8) : zoneOf v = some (some ⟨v.toNat, h⟩) := dif_pos h

theorem zoneOf_eight : zoneOf 8 = some none := rfl

theorem zoneOf_of_gt (h : 8 < v.toNat) : zoneOf v = none := by
  rw [zoneOf, dif_neg (by omega), if_neg (by bv_omega)]

theorem zoneOf_yields : Yields (zoneOf v) (between 0 8 v) (zoneCode · = v) := by
  rcases Nat.lt_trichotomy v.toNat 8 with hlt | heq | hgt
  · rw [zoneOf_of_lt hlt]
    exact .some ⟨Nat.zero_le _, by omega⟩ (word_toNat v)
  · obtain rfl : v = 8 := BitVec.eq_of_toNat_eq heq
    exact .some ⟨by decide, by decide⟩ rfl
  · rw [zoneOf_of_gt hgt]
    exact .none fun h => absurd h.2 (by omega)

theorem indicatorSourceOf_yields :
    Yields (indicatorSourceOf v) (v = 0 ∨ between 8 15 v ∨ between 16 23 v ∨ v = 24)
      (IndicatorSource.code · = v) := by
  have hzero : v.toNat = 0 ↔ v = 0 := by bv_omega
  have hlast : v.toNat = 24 ↔ v = 24 := by bv_omega
  simp only [indicatorSourceOf, hzero, hlast]
  refine .case (fun h => h.symm) ?_
  by_cases hrate : 8 ≤ v.toNat ∧ v.toNat < 16
  · rw [dif_pos hrate]
    refine .some (.inl ⟨hrate.1, by omega⟩) ?_
    rw [IndicatorSource.code, show 8 + (v.toNat - 8) = v.toNat by omega, word_toNat]
  by_cases htemp : 16 ≤ v.toNat ∧ v.toNat < 24
  · rw [dif_neg hrate, dif_pos htemp]
    refine .some (.inr (.inl ⟨htemp.1, by omega⟩)) ?_
    rw [IndicatorSource.code, show 16 + (v.toNat - 16) = v.toNat by omega, word_toNat]
  rw [dif_neg hrate, dif_neg htemp]
  refine (Yields.ite fun h => h.symm).congr ⟨fun h => .inr (.inr h), fun h => ?_⟩
  rcases h with h | h | h
  · exact absurd ⟨h.1, Nat.lt_succ_of_le h.2⟩ hrate
  · exact absurd ⟨h.1, Nat.lt_succ_of_le h.2⟩ htemp
  · exact h

end Decoders

/-! ### What an accepted write leaves (R157, R166) -/

/-- `t` has the link of `s`, and its field `f` reads `v`. -/
def Written (s : State) (f : Field) (v : Word) (t : State) : Prop := t.readField f = v ∧ t.link = s.link

section Zones

variable {s : State} {v : Word} {z : ZoneIx} {f : ZoneField}

/-- A ZONE field is read off the zone's record. -/
theorem readField_zone {t : State} {r : ZoneRec} (h : t.ctl.zones[z] = r) :
    t.readField (.zone z f) = r.readField (t.traffic.account z) f := by rw [State.readField, h]

theorem adjustZone_self (c : Ctl) (z : ZoneIx) (g : ZoneRec → ZoneRec) :
    (c.adjustZone z g).zones[z] = g c.zones[z] := by rw [Ctl.zones_adjustZone, if_pos rfl]

theorem withZone_written {g : ZoneRec → ZoneRec}
    (h : (g s.ctl.zones[z]).readField (s.traffic.account z) f = v) : Written s (.zone z f) v (s.withZone z g) :=
  ⟨(readField_zone (adjustZone_self s.ctl z g)).trans h, rfl⟩

theorem withControl_written {g : Control → Control}
    (h : ({ s.ctl.zones[z] with control := g s.ctl.zones[z].control } : ZoneRec).readField
      (s.traffic.account z) f = v) : Written s (.zone z f) v (s.withControl z g) := withZone_written h

theorem withMonitor_written {g : Monitor → Monitor}
    (h : ({ s.ctl.zones[z] with monitor := g s.ctl.zones[z].monitor } : ZoneRec).readField
      (s.traffic.account z) f = v) : Written s (.zone z f) v (s.withMonitor z g) := withZone_written h

theorem storeCeiling_yields :
    Yields (s.storeCeiling z v) (between 1 65535 v) (Written s (.zone z .ceiling) v) :=
  natIn_yields.map fun n h => by
    refine ⟨(readField_zone (adjustZone_self s.ctl z _)).trans ?_, rfl⟩
    exact h

theorem storeSensor_yields :
    Yields (s.storeSensor z v) (zoneTakes s.ctl.zones[z] v .sensor) (Written s (.zone z .sensor) v) := by
  rw [State.storeSensor]
  rcases Nat.lt_trichotomy v.toNat 8 with hlt | heq | hgt
  · rw [zoneOf_of_lt hlt]
    exact .some (.inl ⟨Nat.zero_le _, by omega⟩) (withControl_written (word_toNat v))
  · obtain rfl : v = 8 := BitVec.eq_of_toNat_eq heq
    rw [zoneOf_eight]
    cases hmode : s.ctl.zones[z].control.mode with
    | pi => exact .none fun h => h.elim (fun h => absurd h.2 (by decide)) fun h => h.2 hmode
    | openLoop => exact .some (.inr ⟨rfl, hmode ▸ Mode.noConfusion⟩) (withControl_written rfl)
  · rw [zoneOf_of_gt hgt]
    refine .none fun h => ?_
    rcases h with h | ⟨rfl, -⟩
    · exact absurd h.2 (by omega)
    · exact absurd hgt (by decide)

/-- A changed configured mode is the one that the record then holds (R119). -/
theorem control_setMode_mode (k : Control) (m : Mode) : (k.setMode m).mode = m := by
  rw [Control.setMode]
  split
  · exact Eq.symm ‹m = k.mode›
  · rw [Control.resource_eq]

theorem storeMode_yields :
    Yields (s.storeMode z v) (zoneTakes s.ctl.zones[z] v .configuredMode) (Written s (.zone z .configuredMode) v) := by
  simp only [State.storeMode, modeOf, zoneTakes]
  by_cases h0 : v = 0
  · subst h0
    exact .some (.inl rfl) (withControl_written (by rw [ZoneRec.readField, control_setMode_mode]; rfl))
  by_cases h1 : v = 1
  · subst h1
    cases s.ctl.zones[z].control.sensor with
    | none => exact .none (by simp)
    | some ch =>
      exact .some (.inr ⟨rfl, Option.some_ne_none ch⟩)
        (withControl_written (by rw [ZoneRec.readField, control_setMode_mode]; rfl))
  simp only [h0, h1, if_false]
  exact .none (by simp)

/-- The clamp after a write of a rate limit leaves the limits (R121). -/
theorem clampRange_rateMin (k : Control) : k.clampRange.rateMin = k.rateMin := by
  rw [Control.clampRange]
  cases k.source <;> rfl

theorem clampRange_rateMax (k : Control) : k.clampRange.rateMax = k.rateMax := by
  rw [Control.clampRange]
  cases k.source <;> rfl

theorem storeRateMin_yields :
    Yields (s.storeRateMin z v) (zoneTakes s.ctl.zones[z] v .rateMin) (Written s (.zone z .rateMin) v) :=
  (Yields.ite fun _ => withControl_written (by rw [ZoneRec.readField, clampRange_rateMin, word_toNat])).congr
    (by simp [zoneTakes, between])

theorem storeRateMax_yields :
    Yields (s.storeRateMax z v) (zoneTakes s.ctl.zones[z] v .rateMax) (Written s (.zone z .rateMax) v) :=
  (Yields.ite fun _ => withControl_written (by rw [ZoneRec.readField, clampRange_rateMax, word_toNat])).congr
    (by simp [zoneTakes, between])

theorem storeMonitorMode_yields :
    Yields (s.storeMonitorMode z v) (between 0 3 v) (Written s (.zone z .monitorMode) v) :=
  monModeOf_yields.map fun m h => by
    refine ⟨(readField_zone (adjustZone_self s.ctl z _)).trans ?_, rfl⟩
    rw [ZoneRec.readField, MonitorModes.setMode_mode, h]

/-- A threshold is taken where it is in range and keeps the order of the three (R125). -/
theorem storeThreshold_yields {g : Int → Monitor → Monitor}
    (hread : ∀ x, signedWord x = v →
      ({ s.ctl.zones[z] with monitor := g x s.ctl.zones[z].monitor } : ZoneRec).readField
        (s.traffic.account z) f = v) :
    Yields (s.storeThreshold z v g)
      (signedBetween (-128) 383 v ∧
        (g v.toInt s.ctl.zones[z].monitor).warnLow < (g v.toInt s.ctl.zones[z].monitor).warnHigh ∧
        (g v.toInt s.ctl.zones[z].monitor).warnHigh < (g v.toInt s.ctl.zones[z].monitor).shutdown)
      (Written s (.zone z f) v) := by
  have hstore : s.storeThreshold z v g = (intIn (-128) 383 v).bind fun x =>
      if (g x s.ctl.zones[z].monitor).ordered then some (s.withMonitor z (g x)) else none := by
    rw [State.storeThreshold]
    cases intIn (-128) 383 v <;> rfl
  rw [hstore]
  refine intIn_yields.bind fun x hx => ?_
  obtain ⟨rfl, hword⟩ := hx
  exact (Yields.ite fun _ => withMonitor_written (hread _ hword)).congr (by simp [Monitor.ordered])

end Zones

/-- A write of a ZONE field: the values that it takes, and what it leaves. -/
theorem storeZone_yields (s : State) (v : Word) (z : ZoneIx) (f : ZoneField) :
    Yields (s.storeZone z v f) (zoneTakes s.ctl.zones[z] v f) (Written s (.zone z f) v) := by
  cases f with
  | ceiling => exact storeCeiling_yields
  | readWeight | writeWeight | holdLimit => exact natIn_yields.map fun n h => withZone_written h
  | policy => exact policyOfWord_yields.map fun p h => withZone_written h
  | sensor => exact storeSensor_yields
  | configuredMode => exact storeMode_yields
  | openRate | fallbackRate | minSamples | staleLimit => exact natIn_yields.map fun n h => withControl_written h
  | setpoint => exact intIn_yields.map fun x h => withControl_written h.2
  | kp | ki | kd => exact .some trivial (withControl_written (word_toNat v))
  | rateMin => exact storeRateMin_yields
  | rateMax => exact storeRateMax_yields
  | monitorMode => exact storeMonitorMode_yields
  | warnLow => exact storeThreshold_yields (f := .warnLow) (g := fun x m => { m with warnLow := x }) fun _ h => h
  | warnHigh => exact storeThreshold_yields (f := .warnHigh) (g := fun x m => { m with warnHigh := x }) fun _ h => h
  | shutdown => exact storeThreshold_yields (f := .shutdown) (g := fun x m => { m with shutdown := x }) fun _ h => h
  | hysteresis | deglitch => exact natIn_yields.map fun n h => withMonitor_written h
  | credit _ | longestHold | sampleSum _ | sampleCount | staleRun | e1 | e2 | u _ | primed | causes | source | rate
  | warnLevel | tripState | overRun | counter _ _ => exact .none id

theorem setRailMode_link (s : State) (m : RailMode) : (s.setRailMode m).link = s.link := by
  rw [State.setRailMode]
  split <;> rfl

theorem setSurgeMode_link (s : State) (m : SurgeMode) : (s.setSurgeMode m).link = s.link := by
  rw [State.setSurgeMode]
  split <;> rfl

/-- A write of a GLOBAL field: the values that it takes, and what it leaves. -/
theorem storeGlobal_yields (s : State) (v : Word) (f : GlobalField) :
    Yields (s.storeGlobal v f) (globalTakes s.ctl v f) (Written s (.global f) v) := by
  cases f with
  | quota p => exact natIn_yields.map fun n h => ⟨(congrArg word (Both.get_set_self _ p n)).trans h, rfl⟩
  | refillPeriod | controlDivisor | ungovernedLimit | railFilter => exact natIn_yields.map fun n h => ⟨h, rfl⟩
  | fenceScope => exact boolOf_yields.map fun b h => ⟨h, rfl⟩
  | railMode =>
    exact railModeOf_yields.map fun m h =>
      ⟨(congrArg RailMode.code (setRailMode_railMode s m)).trans h, setRailMode_link s m⟩
  | surgeMode =>
    exact surgeModeOf_yields.map fun m h =>
      ⟨(congrArg SurgeMode.code (setSurgeMode_surgeMode s m)).trans h, setSurgeMode_link s m⟩
  | surgeFilter => exact surgeFilterOf_yields.map fun x h => ⟨h, rfl⟩
  | leaseOpen => exact (Yields.ite fun _ => ⟨word_toNat v, rfl⟩).congr (by simp [globalTakes, between])
  | leaseClose =>
    exact (Yields.ite fun _ => ⟨word_toNat v, rfl⟩).congr (by simp only [globalTakes, between]; omega)
  | leaseResponse => exact leaseResponseOf_yields.map fun r h => ⟨h, rfl⟩
  | eventMask => exact .some trivial ⟨rfl, rfl⟩
  | indicatorSource => exact indicatorSourceOf_yields.map fun x h => ⟨h, rfl⟩
  | governorState | totalOccupancy | occupancy _ | poolBeats | railState | surgeState | leaseState | leaseTimer
  | violationKind | eventFlags | scanRound | intakeStalls _ | orphans _ | frameErrors _ => exact .none id

/-! ### Pages and channels (R44, R51, R52, R105) -/

/-- The page number that a write of one half would produce (R44). -/
def pageNumber (p : BitVec 28) (v : Word) : Half → Nat
  | .high => v.toNat * 65536 + p.toNat % 65536
  | .low => p.toNat / 65536 * 65536 + v.toNat

/-- A page number put together from its halves. -/
theorem append_toNat (x : BitVec 12) (y : Word) : (x ++ y).toNat = x.toNat * 65536 + y.toNat := by
  rw [BitVec.toNat_append, ← Nat.shiftLeft_add_eq_or_of_lt y.isLt, Nat.shiftLeft_eq]

/-- A written half is taken where it fits, HIGH in 12 bits, and reads back; the other half stays (R44, R51). -/
theorem pageWith_yields (p : BitVec 28) (h : Half) (v : Word) :
    Yields (pageWith p h v) (h = .high → between 0 4095 v)
      (fun q => pageHalf q h = v ∧ q.toNat = pageNumber p v h) := by
  cases h with
  | high =>
    refine (Yields.ite fun hle => ⟨?_, ?_⟩).congr (by simp [between])
    · rw [pageHalf, BitVec.extractLsb'_append_eq_left]
      apply BitVec.eq_of_toNat_eq
      rw [BitVec.toNat_setWidth, BitVec.extractLsb'_toNat]
      simp only [Nat.shiftRight_zero]
      omega
    · rw [append_toNat, BitVec.extractLsb'_toNat, BitVec.extractLsb'_toNat, pageNumber]
      simp only [Nat.shiftRight_zero]
      omega
  | low =>
    refine .some (fun h => Half.noConfusion h) ⟨BitVec.extractLsb'_append_eq_right, ?_⟩
    rw [append_toNat, BitVec.extractLsb'_toNat, pageNumber, Nat.shiftRight_eq_div_pow]
    omega

/-- A written half is stored where the page number passes the comparison of base and limit (R52). -/
theorem pageStore_yields {p : BitVec 28} {h : Half} {v : Word} {fits : Nat → Prop} [DecidablePred fits]
    {g : BitVec 28 → Window} {f : WindowField} (hread : ∀ q, pageHalf q h = v → (g q).readField f = v) :
    Yields ((pageWith p h v).bind fun q => if fits q.toNat then some (g q) else none)
      ((h = .high → between 0 4095 v) ∧ fits (pageNumber p v h)) (fun r => r.readField f = v) :=
  (pageWith_yields p h v).bind fun q ⟨hhalf, hnumber⟩ => hnumber ▸ .ite fun _ => hread q hhalf

theorem store_base (w : Window) (v : Word) (h : Half) :
    w.store v (.base h) = (pageWith w.basePage h v).bind fun q =>
      if q.toNat ≤ w.limitPage.toNat then some { w with basePage := q } else none := by
  rw [Window.store]
  cases pageWith w.basePage h v <;> rfl

theorem store_limit (w : Window) (v : Word) (h : Half) :
    w.store v (.limit h) = (pageWith w.limitPage h v).bind fun q =>
      if w.basePage.toNat ≤ q.toNat then some { w with limitPage := q } else none := by
  rw [Window.store]
  cases pageWith w.limitPage h v <;> rfl

theorem storeWindowField_yields (w : Window) (v : Word) (f : WindowField) :
    Yields (w.store v f) (windowTakes w v f) (fun r => r.readField f = v) := by
  cases f with
  | enabled => exact boolOf_yields.map fun b h => h
  | zone => exact zoneOf_yields.map fun z h => h
  | attr => exact attributeOf_yields.map fun a h => h
  | base h =>
    rw [store_base]
    refine (pageStore_yields (fits := (· ≤ w.limitPage.toNat)) ?_).congr ?_
    · exact fun q hq => hq
    · cases h with
      | high => exact and_congr_left' (forall_prop_of_true rfl)
      | low => exact and_iff_right Half.noConfusion
  | limit h =>
    rw [store_limit]
    refine (pageStore_yields (fits := (w.basePage.toNat ≤ ·)) ?_).congr ?_
    · exact fun q hq => hq
    · cases h with
      | high => exact and_congr_left' (forall_prop_of_true rfl)
      | low => exact and_iff_right Half.noConfusion

/-- A write of a WINDOW field: the values that it takes, and what it leaves. -/
theorem storeWindow_yields (s : State) (v : Word) (w : WinIx) (f : WindowField) :
    Yields (s.storeWindow w v f) (windowTakes s.ctl.windows[w] v f) (Written s (.window w f) v) :=
  (storeWindowField_yields _ v f).map fun r h => by
    refine ⟨?_, rfl⟩
    rw [State.readField, State.withCtl_ctl, get_put, if_pos rfl, h]

/-- A change of a channel's record after which field `f` reads `v`, with whatever else `c` changes beside the channels. -/
theorem adjustChannel_written {s : State} {v : Word} {ch : ChanIx} {f : ChannelField} {c : Ctl}
    {g : Channel → Channel} (hc : c.channels = adjust s.ctl.channels ch g)
    (h : (g s.ctl.channels[ch]).readField f = v) : Written s (.channel ch f) v (s.withCtl c) := by
  refine ⟨?_, rfl⟩
  rw [State.readField, State.withCtl_ctl, hc, get_adjust, if_pos rfl, h]

theorem disabled_enabled (ch : Channel) : ch.disabled.enabled = false := by
  rw [Channel.disabled]
  split
  · rfl
  · exact Bool.eq_false_iff.2 ‹_›

/-- A write of a CHANNEL field: the values that it takes, and what it leaves. -/
theorem storeChannel_yields (s : State) (v : Word) (ch : ChanIx) (f : ChannelField) :
    Yields (s.storeChannel ch v f) (channelTakes v f) (Written s (.channel ch f) v) := by
  cases f with
  | enabled =>
    refine boolOf_yields.map fun b h => ?_
    cases b with
    | true => exact adjustChannel_written (g := fun r => { r with enabled := true }) rfl h
    | false =>
      exact adjustChannel_written (g := Channel.disabled) rfl (by rw [Channel.readField, disabled_enabled, h])
  | divisor =>
    exact .ite fun _ => adjustChannel_written (g := fun r => { r with divisor := v.toNat }) rfl (word_toNat v)
  | offset => exact intIn_yields.map fun x h => adjustChannel_written (g := fun r => { r with offset := x }) rfl h.2
  | lastSample | lastValid | fault => exact .none id

/-- A write of a field: the values that it takes, and what it leaves. -/
theorem storeField_yields (s : State) (v : Word) (f : Field) :
    Yields (s.storeField v f) (fieldTakes s v f) (Written s f v) := by
  cases f with
  | global f => exact storeGlobal_yields s v f
  | zone z f => exact storeZone_yields s v z f
  | window w f => exact storeWindow_yields s v w f
  | channel ch f => exact storeChannel_yields s v ch f
  | slot i f | snapshot f => exact .none id

/-! ### The checks before the value's (R165) -/

section Checks

variable {f : Field}

/-- The classes of fields that the statements name are the access classes of section 10.4. -/
theorem access_iff (f : Field) : (isReadOnly f ↔ f.access = .readOnly) ∧ (isStructural f ↔ f.access = .structural) ∧
    (isLeaseTerm f ↔ f.access = .lease) := by
  cases f with
  | global f => cases f <;> simp [isReadOnly, isStructural, isLeaseTerm, Field.access, GlobalField.access]
  | zone z f => cases f <;> simp [isReadOnly, isStructural, isLeaseTerm, Field.access, ZoneField.access]
  | channel ch f => cases f <;> simp [isReadOnly, isStructural, isLeaseTerm, Field.access, ChannelField.access]
  | window w f | slot i f | snapshot f => simp [isReadOnly, isStructural, isLeaseTerm, Field.access]

theorem isReadOnly_iff : isReadOnly f ↔ f.access = .readOnly := (access_iff f).1

theorem isStructural_iff : isStructural f ↔ f.access = .structural := (access_iff f).2.1

theorem isLeaseTerm_iff : isLeaseTerm f ↔ f.access = .lease := (access_iff f).2.2

variable {s : State}

theorem gate_of_readOnly (h : isReadOnly f) : s.gate f = some .invalid := by
  rw [State.gate, isReadOnly_iff.1 h]

theorem gate_of_not_frozen (h : isStructural f) (hg : s.ctl.governor ≠ .frozen) : s.gate f = some .notFrozen := by
  simp only [State.gate, isStructural_iff.1 h, if_neg hg]

theorem gate_of_lease_running (h : isLeaseTerm f) (hl : s.ctl.lease.state ≠ .stopped) :
    s.gate f = some .busy := by
  simp only [State.gate, isLeaseTerm_iff.1 h, if_neg hl]

/-- A field whose checks all pass comes to the check of its value. -/
theorem gate_open (hread : ¬ isReadOnly f) (hstructural : isStructural f → s.ctl.governor = .frozen)
    (hlease : isLeaseTerm f → s.ctl.lease.state = .stopped) : s.gate f = none := by
  cases ha : f.access with
  | readOnly => exact absurd (isReadOnly_iff.2 ha) hread
  | structural => simp only [State.gate, ha, if_pos (hstructural (isStructural_iff.2 ha))]
  | live => exact gate_of_live ha s
  | lease => simp only [State.gate, ha, if_pos (hlease (isLeaseTerm_iff.2 ha))]

end Checks

/-! ### The WRITE frame (R157, R163, R165) -/

section Frame

variable {s : State} {f : Field} {v : Word}

theorem exec_write (h : takesFrames s) (v : Word) : exec (.write v) s = .next (s.writeReply v).ended :=
  State.frame_taken (fun s => s.writeReply v) h

theorem writeReply_of_pointed (hf : s.pointed = some f) (v : Word) :
    s.writeReply v = s.writeTo f (s.storeField v f) := by rw [State.writeReply, hf]

theorem writeTo_of_gate {st : Status} (hg : s.gate f = some st) (stored : Option State) :
    s.writeTo f stored = written f st s := by simp only [State.writeTo, hg]

theorem writeTo_none (hg : s.gate f = none) : s.writeTo f none = written f .invalid s := by
  simp only [State.writeTo, hg]

theorem writeTo_some (hg : s.gate f = none) (t : State) : s.writeTo f (some t) = written f .done t := by
  simp only [State.writeTo, hg]

theorem exec_write_of_no_field (h : takesFrames s) (hf : s.pointed = none) :
    exec (.write v) s = .next { s with link := fieldFrameEnd s.link .invalid 0 } := by
  rw [exec_write h, State.writeReply, hf]
  rfl

/-- A check that fails before the value's decides the status, and the field keeps its value. -/
theorem exec_write_of_gate (h : takesFrames s) (hf : s.pointed = some f) {st : Status} (hg : s.gate f = some st) :
    exec (.write v) s = .next { s with link := fieldFrameEnd s.link st (s.readField f) } := by
  rw [exec_write h, writeReply_of_pointed hf, writeTo_of_gate hg]
  rfl

/-- A value that does not pass is refused, and the field keeps its value. -/
theorem exec_write_refused (h : takesFrames s) (hf : s.pointed = some f) (hg : s.gate f = none)
    (hv : ¬ fieldTakes s v f) :
    exec (.write v) s = .next { s with link := fieldFrameEnd s.link .invalid (s.readField f) } := by
  have hstore : s.storeField v f = none := by
    rw [← Option.not_isSome_iff_eq_none, (storeField_yields s v f).1]
    exact hv
  rw [exec_write h, writeReply_of_pointed hf, hstore, writeTo_none hg]
  rfl

/-- A value that passes is stored, and the field reads it. -/
theorem exec_write_accepted (h : takesFrames s) (hf : s.pointed = some f) (hg : s.gate f = none)
    (hv : fieldTakes s v f) : ∃ t, s.storeField v f = some t ∧ exec (.write v) s = .next (accepted t v) := by
  obtain ⟨hsome, hwritten⟩ := storeField_yields s v f
  obtain ⟨t, ht⟩ := Option.isSome_iff_exists.1 (hsome.2 hv)
  refine ⟨t, ht, ?_⟩
  rw [exec_write h, writeReply_of_pointed hf, ht, writeTo_some hg, ← (hwritten t ht).1]
  rfl

end Frame

/-- Settles O44: the gate gives the first check that fails, and past it the field's store decides. -/
theorem writeChecksInOrder : Obligations.WriteChecksInOrder := by
  unfold Obligations.WriteChecksInOrder
  refine fun v s h => ⟨exec_write_of_no_field h, fun f hf => ⟨fun hr => exec_write_of_gate h hf (gate_of_readOnly hr),
    fun hs hg => exec_write_of_gate h hf (gate_of_not_frozen hs hg),
    fun hl hg => exec_write_of_gate h hf (gate_of_lease_running hl hg), fun hr hs hl => ?_⟩⟩
  have hg := gate_open hr hs hl
  exact ⟨exec_write_refused h hf hg, exec_write_accepted h hf hg⟩

/-! ### The rows named by their field (log entry 7) -/

/-- The value that a row named by its field writes. -/
def namedWrite : Instr → Option Word
  | .refillPeriodWrite v | .controlDivisorWrite v | .quotaWrite v | .ceilingWrite v | .configuredModeWrite v
  | .sensorWrite v | .openRateWrite v | .fallbackRateWrite v | .rateMinWrite v | .rateMaxWrite v
  | .channelEnableWrite v | .monitorModeWrite v | .fenceScopeWrite v | .railModeWrite v | .surgeModeWrite v
  | .indicatorSourceWrite v | .eventMaskWrite v => some v
  | _ => none

/-- A named row asks for its own field first, and what it then does is what WRITE does on that field. -/
theorem exec_eq_write {i : Instr} {v : Word} (h : namedWrite i = some v) (s : State) :
    exec i s = exec (.write v) s := by
  cases i with
  | refillPeriodWrite x | controlDivisorWrite x | quotaWrite x | ceilingWrite x | configuredModeWrite x
  | sensorWrite x | openRateWrite x | fallbackRateWrite x | rateMinWrite x | rateMaxWrite x | channelEnableWrite x
  | monitorModeWrite x | fenceScopeWrite x | railModeWrite x | surgeModeWrite x | indicatorSourceWrite x
  | eventMaskWrite x =>
    obtain rfl : x = v := Option.some.inj h
    unfold exec
    refine congrArg s.frame (funext fun u => ?_)
    split
    · rename_i hf
      exact (writeReply_of_pointed hf _).symm
    · rfl
  | _ => cases h

/-- A named row writes its value, to a field that is live or structural. -/
theorem namedWrite_of_namesField {i : Instr} {f : Field} {v : Word} (h : namesField i f v) :
    namedWrite i = some v ∧ (f.access = .live ∨ f.access = .structural) := by
  rcases h with ⟨rfl, rfl⟩ | ⟨rfl, rfl⟩ | ⟨rfl, p, rfl⟩ | ⟨rfl, z, rfl⟩ | ⟨rfl, z, rfl⟩ | ⟨rfl, z, rfl⟩ |
    ⟨rfl, z, rfl⟩ | ⟨rfl, z, rfl⟩ | ⟨rfl, z, rfl⟩ | ⟨rfl, z, rfl⟩ | ⟨rfl, ch, rfl⟩ | ⟨rfl, z, rfl⟩ | ⟨rfl, rfl⟩ |
    ⟨rfl, rfl⟩ | ⟨rfl, rfl⟩ | ⟨rfl, rfl⟩ | ⟨rfl, rfl⟩ <;>
  simp [namedWrite, Field.access, GlobalField.access, ZoneField.access, ChannelField.access]

/-- Settles O46: a named row is WRITE, and its field is neither read-only nor a lease field. -/
theorem namedWritesAreWriteFrames : Obligations.NamedWritesAreWriteFrames := by
  unfold Obligations.NamedWritesAreWriteFrames
  intro i f v s hnames
  obtain ⟨hwrite, haccess⟩ := namedWrite_of_namesField hnames
  have hexec := exec_eq_write hwrite s
  refine ⟨hexec, fun h hf hv hfrozen => ?_⟩
  rw [hexec]
  refine exec_write_accepted h hf (gate_open ?_ hfrozen ?_) hv
  · rw [isReadOnly_iff]
    rcases haccess with ha | ha <;> simp [ha]
  · rw [isLeaseTerm_iff]
    rcases haccess with ha | ha <;> simp [ha]

end Sys2Proof.FieldWrites

/-! PROOF. The end of a frame (R157, R163, R176): no command but its own end changes the pending result, the frame count
or CS_N, and only SELECT_OBJECT, SELECT_FIELD, READ and WRITE move the pointer. -/

namespace Sys2Proof.FrameEnds

open Sys2Proof.Machine Sys2Proof.Claims Sys2Proof.FieldWrites

/-! ### What a command leaves of the link -/

section Links

variable (s : State)

theorem frozenCheck_link : s.frozenCheck.link = s.link := by
  rw [State.frozenCheck]
  split <;> rfl

theorem drain_link : s.drain.link = s.link := by
  rw [State.drain]
  cases s.ctl.governor with
  | run => exact frozenCheck_link _
  | draining | frozen => rfl

theorem resume_link : s.resume.link = s.link := by
  rw [State.resume]
  cases s.ctl.governor <;> rfl

theorem leaseStart_link : s.leaseStart.2.link = s.link := by
  rw [State.leaseStart]
  cases s.ctl.lease.state <;> rfl

theorem leaseRenew_link : s.leaseRenew.2.link = s.link := by
  rw [State.leaseRenew]
  cases s.ctl.lease.state <;> rfl

theorem leaseStop_link : s.leaseStop.2.link = s.link := by
  rw [State.leaseStop]
  cases s.ctl.lease.state <;> rfl

theorem clearRail_link : s.clearRail.2.link = s.link := by
  rw [State.clearRail]
  cases s.ctl.railState <;> rfl

theorem clearSurge_link : s.clearSurge.2.link = s.link := by
  rw [State.clearSurge]
  cases s.ctl.surgeState with
  | tripped => cases s.ctl.surgeAsserted <;> rfl
  | idle | armed | filtering n => rfl

theorem clearLease_link : s.clearLease.2.link = s.link := by
  rw [State.clearLease]
  cases s.ctl.lease.state <;> rfl

/-- A part of CLEAR that leaves the link leaves it in the chain of parts (R162). -/
theorem clearIf_link {part : State → Bool × State} (hpart : ∀ u, (part u).2.link = u.link) (mask : Word) (n : Nat)
    (acc : Word × State) : (clearIf mask n part acc).2.link = acc.2.link := by
  rw [clearIf]
  split
  · exact hpart acc.2
  · rfl

theorem clear_link (mask : Word) : (s.clear mask).state.link = s.link := by
  rw [State.clear]
  split
  · exact (clearIf_link clearLease_link ..).trans <| (clearIf_link clearSurge_link ..).trans <|
      (clearIf_link clearRail_link ..).trans <| clearIf_link (fun u => rfl) ..
  · rfl

theorem snapshotReply_link (arg : BitVec 8) (v : Word) : (s.snapshotReply arg v).state.link = s.link := by
  rw [State.snapshotReply]
  split
  · split <;> rfl
  · rfl

/-- READ changes the pointer's field alone (R163). -/
theorem readReply_link : s.readReply.state.link = { s.link with field := s.link.field + 1 } := by
  rw [State.readReply]
  cases s.pointed <;> rfl

/-- WRITE changes the pointer's field alone, whatever the field that it writes (R163). -/
theorem writeReply_link (v : Word) : (s.writeReply v).state.link = { s.link with field := s.link.field + 1 } := by
  cases hf : s.pointed with
  | none =>
    rw [State.writeReply, hf]
    rfl
  | some f =>
    rw [writeReply_of_pointed hf]
    cases hg : s.gate f with
    | some st =>
      rw [writeTo_of_gate hg]
      rfl
    | none =>
      cases hstore : s.storeField v f with
      | none =>
        rw [writeTo_none hg]
        rfl
      | some t =>
        have hlink : t.link = s.link := ((storeField_yields s v f).2 t hstore).2
        rw [writeTo_some hg, ← hlink]
        rfl

theorem selectObject_link (cls : BitVec 8) (index : Word) :
    ∃ o n, (s.selectObject cls index).state.link = { s.link with object := o, field := n } := by
  rw [State.selectObject]
  cases objectOf cls index with
  | some o => exact ⟨o, 0, rfl⟩
  | none => exact ⟨s.link.object, s.link.field, rfl⟩

theorem selectField_link (n : Word) : ∃ k, (s.selectField n).state.link = { s.link with field := k } := by
  rw [State.selectField]
  split
  · exact ⟨n.setWidth 8, rfl⟩
  · exact ⟨s.link.field, rfl⟩

end Links

/-! ### One report for each frame (R157) -/

/-- Command `i` ends a frame with one report, and of the link it moves the pointer at most: only its field, if it is not
SELECT_OBJECT. -/
def ReportsOnce (i : Instr) : Prop := ∃ f : State → Reply, ∀ s, exec i s = s.frame f ∧
  ∃ o n, (f s).state.link = { s.link with object := o, field := n } ∧
    ((∀ cls index, i ≠ .selectObject cls index) → o = s.link.object)

theorem reportsOnce_of_field_moved {i : Instr} (f : State → Reply) (hexec : ∀ s, exec i s = s.frame f)
    (hlink : ∀ s, ∃ n, (f s).state.link = { s.link with field := n }) : ReportsOnce i :=
  ⟨f, fun s => ⟨hexec s, s.link.object, (hlink s).imp fun _ h => ⟨h, fun _ => rfl⟩⟩⟩

theorem reportsOnce_of_link_kept {i : Instr} (f : State → Reply) (hexec : ∀ s, exec i s = s.frame f)
    (hlink : ∀ s, (f s).state.link = s.link) : ReportsOnce i :=
  reportsOnce_of_field_moved f hexec fun s => ⟨s.link.field, hlink s⟩

theorem reportsOnce_write (v : Word) : ReportsOnce (.write v) :=
  reportsOnce_of_field_moved (·.writeReply v) (fun _ => rfl) fun s => ⟨_, writeReply_link s v⟩

/-- A row named by its field ends as WRITE does (log entry 7). -/
theorem reportsOnce_of_namedWrite {i : Instr} {v : Word} (h : namedWrite i = some v) : ReportsOnce i :=
  reportsOnce_of_field_moved (·.writeReply v) (exec_eq_write h) fun s => ⟨_, writeReply_link s v⟩

theorem reportsOnce_unknown {code : BitVec 8} (h : (Instr.unknown code).wellFormed = true) :
    ReportsOnce (.unknown code) := by
  refine reportsOnce_of_link_kept (fun s => { status := .unknown, value := 0, state := s }) (fun s => ?_) fun _ => rfl
  exact if_neg (Bool.eq_false_iff.1 (Bool.not_eq_true' _ ▸ h))

theorem reportsOnce_of_isFrame {i : Instr} (hframe : isFrame i = true) (hwell : i.wellFormed = true) :
    ReportsOnce i := by
  cases i with
  | nop => exact reportsOnce_of_link_kept _ (fun _ => rfl) fun _ => rfl
  | unknown code => exact reportsOnce_unknown hwell
  | selectObject cls index =>
    refine ⟨(·.selectObject cls index), fun s => ⟨rfl, ?_⟩⟩
    obtain ⟨o, n, hlink⟩ := selectObject_link s cls index
    exact ⟨o, n, hlink, fun h => absurd rfl (h cls index)⟩
  | selectField n => exact reportsOnce_of_field_moved (·.selectField n) (fun _ => rfl) (selectField_link · n)
  | read => exact reportsOnce_of_field_moved State.readReply (fun _ => rfl) fun s => ⟨_, readReply_link s⟩
  | write v => exact reportsOnce_write v
  | refillPeriodWrite v | controlDivisorWrite v | quotaWrite v | ceilingWrite v | configuredModeWrite v
  | sensorWrite v | openRateWrite v | fallbackRateWrite v | rateMinWrite v | rateMaxWrite v | channelEnableWrite v
  | monitorModeWrite v | fenceScopeWrite v | railModeWrite v | surgeModeWrite v | indicatorSourceWrite v
  | eventMaskWrite v => exact reportsOnce_of_namedWrite rfl
  | clear mask => exact reportsOnce_of_link_kept (·.clear mask) (fun _ => rfl) (clear_link · mask)
  | clearFences =>
    exact reportsOnce_of_link_kept (fun s => clearReply (clearPart 0 State.clearFences (0, s))) (fun _ => rfl)
      fun _ => rfl
  | clearRail =>
    exact reportsOnce_of_link_kept (fun s => clearReply (clearPart 1 State.clearRail (0, s))) (fun _ => rfl)
      clearRail_link
  | clearSurge =>
    exact reportsOnce_of_link_kept (fun s => clearReply (clearPart 2 State.clearSurge (0, s))) (fun _ => rfl)
      clearSurge_link
  | clearLease =>
    exact reportsOnce_of_link_kept (fun s => clearReply (clearPart 3 State.clearLease (0, s))) (fun _ => rfl)
      clearLease_link
  | drain => exact reportsOnce_of_link_kept (fun s => governorReply .done s.drain) (fun _ => rfl) drain_link
  | resume => exact reportsOnce_of_link_kept (fun s => governorReply .done s.resume) (fun _ => rfl) resume_link
  | resetConfig =>
    refine reportsOnce_of_link_kept (fun s =>
      if s.mayResetConfig then governorReply .done s.resetConfig else governorReply .busy s) (fun _ => rfl) fun s => ?_
    cases s.mayResetConfig <;> rfl
  | leaseStart => exact reportsOnce_of_link_kept (fun s => leaseReply s.leaseStart) (fun _ => rfl) leaseStart_link
  | leaseRenew => exact reportsOnce_of_link_kept (fun s => leaseReply s.leaseRenew) (fun _ => rfl) leaseRenew_link
  | leaseStop => exact reportsOnce_of_link_kept (fun s => leaseReply s.leaseStop) (fun _ => rfl) leaseStop_link
  | snapshot arg v =>
    exact reportsOnce_of_link_kept (·.snapshotReply arg v) (fun _ => rfl) (snapshotReply_link · arg v)
  | readEvents => exact reportsOnce_of_link_kept _ (fun _ => rfl) fun _ => rfl
  | _ => cases hframe

/-- Settles O40: every frame's command ends in `State.frame`, which writes the report, or takes no frame while the link
waits. -/
theorem everyFrameReportsOnce : Obligations.EveryFrameReportsOnce := by
  unfold Obligations.EveryFrameReportsOnce
  intro i s hframe hwell
  obtain ⟨f, hf⟩ := reportsOnce_of_isFrame hframe hwell
  obtain ⟨hexec, o, n, hlink, hobject⟩ := hf s
  rw [hexec]
  refine ⟨fun h => ?_, State.frame_waiting f⟩
  refine ⟨_, (f s).status, (f s).value, o, n, State.frame_taken f h, ?_, hobject⟩
  rw [Reply.ended_link, hlink]
  rfl

end Sys2Proof.FrameEnds

/-! PROOF. READ_EVENTS and SNAPSHOT (R170, R173): the flags that are cleared are those that are returned, and the values
that SNAPSHOT takes are 0 and 1. -/

namespace Sys2Proof.Events

open Sys2Proof.Machine Sys2Proof.Claims

/-! ### READ_EVENTS (R170) -/

/-- Clearing the flags that are set leaves none. -/
theorem clearFlags_flags (t : Traffic) : t.clearFlags t.flags = { t with flags := 0 } := by
  rw [Traffic.clearFlags, BitVec.and_not_self]

theorem exec_readEvents {s : State} (h : takesFrames s) :
    exec .readEvents s =
      .next (ends { s with traffic := { s.traffic with flags := 0 } } .done s.traffic.flags) := by
  change execReadEvents s = _
  rw [execReadEvents, State.frame_taken _ h, clearFlags_flags]
  rfl

/-! ### SNAPSHOT (R161, R173) -/

/-- A word without bits from `n` on is one below `2 ^ n`. -/
theorem and_allOnes_shiftLeft_eq_zero_iff (v : Word) (n : Nat) :
    v &&& (BitVec.allOnes 16 <<< n) = 0 ↔ v.toNat < 2 ^ n := by
  have hpos : 0 < 2 ^ n := Nat.two_pow_pos n
  have hlt : v.toNat / 2 ^ n * 2 ^ n < 2 ^ 16 := Nat.lt_of_le_of_lt (Nat.div_mul_le_self _ _) v.isLt
  rw [← BitVec.shiftLeft_ushiftRight, ← BitVec.toNat_inj, BitVec.toNat_shiftLeft, BitVec.toNat_ushiftRight,
    Nat.shiftLeft_eq, Nat.shiftRight_eq_div_pow, Nat.mod_eq_of_lt hlt]
  change _ = 0 ↔ _
  rw [Nat.mul_eq_zero, or_iff_left (Nat.ne_of_gt hpos), Nat.div_eq_zero_iff_lt hpos]

/-- SNAPSHOT takes the values 0 and 1. -/
theorem and_valueBits_eq_zero_iff (v : Word) : v &&& 0xFFFE = 0 ↔ v.toNat ≤ 1 := by
  have hbits : (0xFFFE : Word) = BitVec.allOnes 16 <<< 1 := by decide
  rw [hbits, and_allOnes_shiftLeft_eq_zero_iff]
  omega

/-- Clear-after is bit 0 of the value, which decides between the values taken. -/
theorem getLsbD_zero_eq_of_le_one {v : Word} (h : v.toNat ≤ 1) : v.getLsbD 0 = decide (v = 1) := by
  have hv : v = 0 ∨ v = 1 := by bv_omega
  rcases hv with rfl | rfl <;> decide

theorem exec_snapshot {s : State} (h : takesFrames s) (arg : BitVec 8) (v : Word) :
    exec (.snapshot arg v) s = .next (s.snapshotReply arg v).ended :=
  State.frame_taken (fun s => s.snapshotReply arg v) h

theorem exec_snapshot_refused {s : State} (h : takesFrames s) {arg : BitVec 8} {v : Word}
    (hbad : 7 < arg.toNat ∨ 1 < v.toNat) : exec (.snapshot arg v) s = .next (ends s .invalid 0) := by
  rw [exec_snapshot h, State.snapshotReply]
  by_cases harg : arg.toNat < 8
  · have hv : ¬ v &&& 0xFFFE = 0 := by
      rw [and_valueBits_eq_zero_iff]
      omega
    rw [dif_pos harg, if_neg hv]
    rfl
  · rw [dif_neg harg]
    rfl

theorem exec_snapshot_taken {s : State} (h : takesFrames s) {arg : BitVec 8} {v : Word} {z : ZoneIx}
    (harg : arg.toNat = z.val) (hv : v.toNat ≤ 1) :
    exec (.snapshot arg v) s = .next (ends (s.takeSnapshot z (decide (v = 1))) .done 0) := by
  have hlt : arg.toNat < 8 := by omega
  obtain rfl : z = ⟨arg.toNat, hlt⟩ := Fin.ext harg.symm
  rw [exec_snapshot h, State.snapshotReply, dif_pos hlt, if_pos ((and_valueBits_eq_zero_iff v).2 hv),
    getLsbD_zero_eq_of_le_one hv]
  rfl

/-- The path after a SNAPSHOT: clear-after changes one account, and nothing else does (R173). -/
theorem takeSnapshot_traffic (s : State) (z : ZoneIx) (clearAfter : Bool) :
    (s.takeSnapshot z clearAfter).traffic =
      { s.traffic with accounts := (s.takeSnapshot z clearAfter).traffic.accounts } := by cases clearAfter <;> rfl

theorem takeSnapshot_account (s : State) (z y : ZoneIx) (clearAfter : Bool) :
    (s.takeSnapshot z clearAfter).traffic.account y =
      if y = z ∧ clearAfter = true then
        { s.traffic.account y with counters := ZoneCounters.zero, longestHold := 0 }
      else s.traffic.account y := by
  cases clearAfter with
  | false => simp [State.takeSnapshot]
  | true =>
    by_cases hy : y = z
    · subst hy
      simp [State.takeSnapshot, Account.cleared]
    · simp [State.takeSnapshot, Traffic.account_setAccount, hy, Ne.symm hy]

/-- Settles O51: the frame of READ_EVENTS, the refusals of SNAPSHOT, and the accounts after a SNAPSHOT that is taken. -/
theorem snapshotAndReadEvents : Obligations.SnapshotAndReadEvents := by
  unfold Obligations.SnapshotAndReadEvents
  refine fun s h => ⟨exec_readEvents h, fun arg v => ⟨exec_snapshot_refused h, fun z harg hv => ?_⟩⟩
  refine ⟨_, exec_snapshot_taken h harg hv, takeSnapshot_traffic s z _, fun y => ?_⟩
  exact (takeSnapshot_account s z y _).trans (by simp only [decide_eq_true_eq])

end Sys2Proof.Events

/-! PROOF. The indicator output (R174, R175): the write of its source, and the start of a repetition period. -/

namespace Sys2Proof.IndicatorOutput

open Sys2Proof.Machine Sys2Proof.Claims Sys2Proof.FieldWrites Sys2Proof.MonitorModes Sys2Proof.Periods

/-! ### The source's code (section 10.4) -/

/-- Every source is the one that its code names. -/
theorem indicatorSourceOf_code (x : IndicatorSource) : indicatorSourceOf x.code = some x := by
  cases x with
  | off | occupancy => rfl
  | zoneRate z => revert z; decide
  | zoneTemp z => revert z; decide

/-- A value that is no source's code names none. -/
theorem indicatorSourceOf_of_no_code {v : Word} (h : ∀ x : IndicatorSource, x.code ≠ v) :
    indicatorSourceOf v = none :=
  Option.eq_none_iff_forall_not_mem.2 fun x hx => h x (indicatorSourceOf_yields.2 x hx)

/-! ### The write of the source (R175) -/

theorem exec_indicatorSourceWrite {s : State} (h : pointsAt s .global 25) (v : Word) :
    exec (.indicatorSourceWrite v) s =
      .next (s.writeTo (.global .indicatorSource) (s.storeIndicatorSource v)).ended := by
  have hpointed : s.pointed = some (.global .indicatorSource) := pointed_of_pointsAt h
  change execIndicatorSourceWrite v s = _
  rw [execIndicatorSourceWrite, State.frame_taken _ h.1, hpointed]

/-- A source's code is accepted: INDICATE is held low for two control ticks. -/
theorem exec_indicatorSourceWrite_code {s : State} (x : IndicatorSource) (h : pointsAt s .global 25) :
    exec (.indicatorSourceWrite x.code) s = .next (accepted { s with
      ctl := { s.ctl with indicator := { source := x, blanking := 2, duty := { num := 0, den := 1 } } } } x.code) := by
  rw [exec_indicatorSourceWrite h, State.storeIndicatorSource, indicatorSourceOf_code, Option.map_some,
    writeTo_some_ended rfl]
  rfl

theorem exec_indicatorSourceWrite_refused {s : State} {v : Word} (h : pointsAt s .global 25)
    (hv : ∀ x : IndicatorSource, x.code ≠ v) :
    exec (.indicatorSourceWrite v) s =
      .next { s with link := fieldFrameEnd s.link .invalid s.ctl.indicator.source.code } := by
  rw [exec_indicatorSourceWrite h, State.storeIndicatorSource, indicatorSourceOf_of_no_code hv, Option.map_none,
    writeTo_none_ended rfl]
  rfl

/-! ### The start of a repetition period (R174) -/

theorem atPeriodStart_eq (n : Indicator) (d : Duty) :
    n.atPeriodStart d = { n with duty := if n.blanking ≠ 0 then { num := 0, den := 1 } else d } := by
  rw [Indicator.atPeriodStart, ite_not]
  rfl

theorem exec_repetitionPeriodStart (s : State) :
    exec .repetitionPeriodStart s = .next { s with
      ctl := { s.ctl with indicator := s.ctl.indicator.atPeriodStart (dutyOf s.ctl s.traffic) } } := by
  change execRepetitionPeriodStart s = _
  rw [execRepetitionPeriodStart, sourceDuty_eq_dutyOf]

/-- Settles O52: the two outcomes of a source write, and the duty that a repetition period starts with. -/
theorem indicatorFollowsItsSource : Obligations.IndicatorFollowsItsSource := by
  unfold Obligations.IndicatorFollowsItsSource
  refine fun s => ⟨fun v h => ⟨?_, exec_indicatorSourceWrite_refused h⟩, ?_⟩
  · rintro x rfl
    exact exec_indicatorSourceWrite_code x h
  · rw [exec_repetitionPeriodStart, atPeriodStart_eq]

end Sys2Proof.IndicatorOutput

/-! PROOF. What no command lowers (R168, R171, R172): on the transaction path every operation keeps the set flags and
lowers no counter, so every command does but the few that the statement names. -/

namespace Sys2Proof.Rising

open Sys2Proof.Machine Sys2Proof.Claims Sys2Proof.FieldWrites Sys2Proof.FrameEnds

/-! ### Counters that stop at 4294967295 (R171, R172) -/

theorem satAdd_toNat (c : Counter) (n : Nat) : (satAdd c n).toNat = min (c.toNat + n) 4294967295 := by
  rw [satAdd, BitVec.toNat_ofNat]
  omega

theorem le_satAdd (c : Counter) (n : Nat) : c ≤ satAdd c n := by
  rw [BitVec.le_def, satAdd_toNat]
  omega

/-- A change of a zone's counters under which none falls. -/
def NoneFalls (f : ZoneCounters → ZoneCounters) : Prop := ∀ k name, k.get name ≤ (f k).get name

theorem noneFalls_taken (n : Nat) : NoneFalls (ZoneCounters.taken n) := by
  intro k name
  cases name with
  | admittedRequests | admittedBeats => exact le_satAdd ..
  | _ => exact BitVec.le_refl _

theorem noneFalls_held : NoneFalls ZoneCounters.held := by
  intro k name
  cases name with
  | heldRequests => exact le_satAdd ..
  | _ => exact BitVec.le_refl _

theorem noneFalls_force : NoneFalls ZoneCounters.force := by
  intro k name
  cases name with
  | forced => exact le_satAdd ..
  | _ => exact BitVec.le_refl _

theorem noneFalls_memError : NoneFalls ZoneCounters.memError := by
  intro k name
  cases name with
  | memoryErrors => exact le_satAdd ..
  | _ => exact BitVec.le_refl _

theorem noneFalls_answer (a : AnswerStatus) : NoneFalls (ZoneCounters.answer a) := by
  intro k name
  cases a with
  | fenced => cases name with
    | fencedAnswers => exact le_satAdd ..
    | _ => exact BitVec.le_refl _
  | expired => cases name with
    | expired => exact le_satAdd ..
    | _ => exact BitVec.le_refl _
  | refused => cases name with
    | refusedAnswers => exact le_satAdd ..
    | _ => exact BitVec.le_refl _

/-! ### The relation -/

/-- From `t` to `u` no flag is cleared and no counter falls. -/
structure Rises (t u : Traffic) : Prop where
  flags : ∀ n, t.flags.getLsbD n = true → u.flags.getLsbD n = true
  intakeStalls : t.intakeStalls ≤ u.intakeStalls
  orphans : t.orphans ≤ u.orphans
  counters : ∀ z name, (t.account z).counters.get name ≤ (u.account z).counters.get name

/-- The flags and counters of the path. -/
def tally (t : Traffic) : Vector ZoneCounters 8 × BitVec 16 × Counter × Counter :=
  (t.accounts.map Account.counters, t.flags, t.intakeStalls, t.orphans)

/-- An operation on the other parts of the path lowers nothing. -/
theorem Rises.of_kept {t u : Traffic} (h : tally u = tally t) : Rises t u := by
  simp only [tally, Prod.mk.injEq] at h
  obtain ⟨haccounts, hflags, hstalls, horphans⟩ := h
  have hcounters (z : ZoneIx) : (u.account z).counters = (t.account z).counters := by
    simpa [Traffic.account] using congrArg (·[z]) haccounts
  exact {
    flags := fun n hn => by rwa [hflags]
    intakeStalls := hstalls ▸ BitVec.le_refl _
    orphans := horphans ▸ BitVec.le_refl _
    counters := fun z name => hcounters z ▸ BitVec.le_refl _ }

theorem Rises.refl (t : Traffic) : Rises t t := .of_kept rfl

theorem Rises.trans {t u v : Traffic} (h : Rises t u) (h' : Rises u v) : Rises t v where
  flags n hn := h'.flags n (h.flags n hn)
  intakeStalls := BitVec.le_trans h.intakeStalls h'.intakeStalls
  orphans := BitVec.le_trans h.orphans h'.orphans
  counters z name := BitVec.le_trans (h.counters z name) (h'.counters z name)

/-- What lowers nothing still lowers nothing with the other parts of the path changed after it. -/
theorem Rises.kept {t u v : Traffic} (h : Rises t u) (hkept : tally v = tally u) : Rises t v :=
  h.trans (.of_kept hkept)

/-- What lowers nothing lowers nothing in a row, with the other parts of the path changed between. -/
theorem Rises.kept_trans {t u v w : Traffic} (h : Rises t u) (h' : Rises v w) (hkept : tally v = tally u) :
    Rises t w := (h.kept hkept).trans h'

/-- What lowers nothing lowers nothing with the other parts of the path changed before it. -/
theorem Rises.after {t u v : Traffic} (h : Rises u v) (hkept : tally u = tally t) : Rises t v :=
  (Rises.of_kept hkept).trans h

/-- Other accounts with the same counters lower nothing. -/
theorem Rises.of_accounts {t : Traffic} {as : Vector Account 8}
    (h : ∀ z : ZoneIx, as[z].counters = t.accounts[z].counters) : Rises t { t with accounts := as } where
  flags _ hn := hn
  intakeStalls := BitVec.le_refl _
  orphans := BitVec.le_refl _
  counters z name := by
    rw [Traffic.account, Traffic.account, h]
    exact BitVec.le_refl _

/-- Operations that lower nothing lower nothing in a row. -/
theorem rises_foldl {α : Type} {f : Traffic → α → Traffic} (h : ∀ t x, Rises t (f t x)) (t : Traffic)
    (xs : List α) : Rises t (xs.foldl f t) := by
  induction xs generalizing t with
  | nil => exact .refl t
  | cons x xs ih => exact (h t x).trans (ih _)

section Path

variable (t : Traffic) (c : Ctl) (i : SlotIx) (z : ZoneIx) (zone : ZoneRef)

/-! ### Flags and accounts -/

theorem rises_raise (e : Event) : Rises t (t.raise e) where
  flags n h := by rw [Traffic.raise_flags, BitVec.getLsbD_or, h, Bool.true_or]
  intakeStalls := BitVec.le_refl _
  orphans := BitVec.le_refl _
  counters _ _ := BitVec.le_refl _

theorem rises_raiseIf (b : Bool) (e : Event) : Rises t (t.raiseIf b e) := by
  cases b with
  | false => exact .refl t
  | true => exact rises_raise t e

theorem rises_setAccount {a : Account} (h : ∀ name, (t.account z).counters.get name ≤ a.counters.get name) :
    Rises t (t.setAccount z a) where
  flags _ h := h
  intakeStalls := BitVec.le_refl _
  orphans := BitVec.le_refl _
  counters y name := by
    rw [Traffic.account_setAccount]
    split
    · rename_i hy
      exact hy ▸ h name
    · exact BitVec.le_refl _

theorem rises_setCredit (x : Int) : Rises t (t.setCredit z x) := rises_setAccount t z fun _ => BitVec.le_refl _

theorem rises_count {f : ZoneCounters → ZoneCounters} (hf : NoneFalls f) : Rises t (t.count zone f) := by
  cases zone with
  | none => exact .refl t
  | some z => exact rises_setAccount t z (hf _)

theorem rises_noteAge (age : Nat) : Rises t (t.noteAge zone age) := by
  cases zone with
  | none => exact .refl t
  | some z => exact rises_setAccount t z fun _ => BitVec.le_refl _

theorem rises_refund (n : Nat) : Rises t (t.refund c zone n) := by
  cases zone with
  | none => exact .refl t
  | some z => exact rises_setCredit t z _

theorem rises_charge (n : Nat) : Rises t (t.charge zone n) := by
  cases zone with
  | none => exact .refl t
  | some z => exact rises_setCredit t z _

theorem rises_forcePay (n : Nat) : Rises t (t.forcePay c zone n) := by
  cases zone with
  | none => exact .refl t
  | some z => exact rises_setCredit t z _

theorem rises_refill : Rises t (t.refill c) :=
  .of_accounts fun z => by simp

theorem rises_resetCredits : Rises t t.resetCredits :=
  .of_accounts fun z => by simp

theorem rises_fillCredits : Rises t (t.fillCredits c) :=
  .of_accounts fun z => by simp

/-! ### Releases and payments -/

theorem rises_release (age : Nat) : Rises t (t.release i age) := (rises_noteAge t _ age).kept rfl

theorem rises_sweepFrom (is : List SlotIx) (ks : List Key) : Rises t (Traffic.sweepFrom is ks t) := by
  induction is generalizing ks t with
  | nil => exact .refl t
  | cons i is ih =>
    simp only [Traffic.sweepFrom]
    split
    · split
      · exact (rises_release t i _).trans (ih ..)
      · exact Rises.after (ih (t.setSlot i _) _) rfl
    all_goals exact ih ..

theorem rises_sweep : Rises t t.sweep := rises_sweepFrom ..

theorem rises_pay (r : Reasons) (age : Nat) : Rises t (t.pay i z r age) := (rises_setCredit t z _).kept rfl

theorem rises_payRun (is : List SlotIx) : Rises t (Traffic.payRun z is t) := by
  induction is generalizing t with
  | nil => exact .refl t
  | cons i is ih =>
    simp only [Traffic.payRun]
    split
    · split
      · split
        · exact (rises_pay t i z ..).trans (ih _)
        · exact .refl t
      · exact ih t
    all_goals exact ih t

theorem rises_payAttempts (zs : List ZoneIx) : Rises t (t.payAttempts zs) :=
  (rises_foldl (fun t z => rises_payRun t z t.order) t zs).trans (rises_sweep _)

/-! ### Answers -/

theorem rises_noteAnswer (a : AnswerStatus) : Rises t (t.noteAnswer a zone) := by
  cases a with
  | fenced => exact rises_count t zone (noneFalls_answer _)
  | expired | refused => exact (rises_count t zone (noneFalls_answer _)).trans (rises_raise _ _)

theorem rises_refundIfPaid : Rises t (t.refundIfPaid c i) := by
  rw [Traffic.refundIfPaid]
  split
  · exact rises_refund ..
  · exact .refl t

theorem rises_answer (a : AnswerStatus) : Rises t (t.answer c a i) := by
  rw [Traffic.answer]
  split
  · exact ((rises_noteAge t _ _).trans (rises_refundIfPaid _ c i)).kept_trans (rises_noteAnswer _ _ a) rfl
  all_goals exact .refl t

/-! ### Intake -/

theorem rises_createLive (p : Port) (r : Request) (l : Lookup) : Rises t (t.createLive c p r l i) := by
  have hcharge : ∀ b : Bool, ∀ n, Rises t (if b then t.charge l.zone n else t) := fun b n => by
    cases b with
    | false => exact .refl t
    | true => exact rises_charge t l.zone n
  simp only [Traffic.createLive]
  split
  · exact (hcharge _ _).kept rfl
  · exact (hcharge _ _).kept_trans (rises_count _ _ noneFalls_held) rfl

theorem rises_create (p : Port) (r : Request) : Rises t (t.create c p r i) := by
  simp only [Traffic.create]
  split
  · exact Rises.after (rises_noteAnswer _ _ _) rfl
  · exact rises_createLive ..

theorem rises_take (p : Port) : Rises t (t.take c p) := by
  rw [Traffic.take]
  split
  · exact Rises.after (rises_create _ c _ p _) rfl
  all_goals exact .refl t

/-- The stall counter counts an offer once, and never falls (R31). -/
theorem rises_failExam (p : Port) : Rises t (t.failExam p) := by
  rw [Traffic.failExam]
  split
  · rename_i o _
    have hstalls : t.intakeStalls ≤ if o.counted then t.intakeStalls else satAdd t.intakeStalls 1 := by
      split
      · exact BitVec.le_refl _
      · exact le_satAdd ..
    refine Rises.trans ?_ (rises_raiseIf _ _ _)
    exact ⟨fun _ h => h, hstalls, BitVec.le_refl _, fun _ _ => BitVec.le_refl _⟩
  · exact .refl t

theorem rises_examineOne (p : Port) : Rises t (t.examineOne c p) := by
  rw [Traffic.examineOne]
  split
  · exact .refl t
  · split
    · exact rises_take ..
    · exact rises_failExam ..

theorem rises_examineBoth : Rises t (t.examineBoth c) := by
  simp only [Traffic.examineBoth]
  split
  · exact .refl t
  split
  · split
    · exact (rises_take t c _).trans (rises_take ..)
    · exact (rises_take t c _).kept_trans (rises_examineOne _ c _) rfl
  split
  · exact (rises_failExam t .b).trans (rises_take ..)
  split
  · exact (rises_failExam t .a).trans (rises_take ..)
  · exact (rises_failExam t .a).trans (rises_failExam ..)

/-! ### The memory port -/

theorem rises_orphan : Rises t t.orphan := by
  refine Rises.trans ?_ (rises_raise _ _)
  exact ⟨fun _ h => h, BitVec.le_refl _, le_satAdd .., fun _ _ => BitVec.le_refl _⟩

theorem rises_pump (ms : List MemResponse) : Rises t (Traffic.pump ms t) := by
  induction ms generalizing t with
  | nil => exact .of_kept rfl
  | cons m ms ih =>
    simp only [Traffic.pump]
    split
    · exact .of_kept rfl
    · exact (rises_orphan t).trans (ih _)

theorem rises_receive (m : MemResponse) : Rises t (t.receive m) := by
  rw [Traffic.receive]
  split
  · exact .of_kept rfl
  · exact rises_pump ..

theorem rises_forward (rest : List SlotIx) : Rises t (t.forward i rest) :=
  Rises.after (rises_count _ _ (noneFalls_taken _)) rfl

/-! ### The end of an event -/

theorem rises_offerMemory : Rises t (t.offerMemory c) := by
  rw [Traffic.offerMemory_eq]
  exact .of_kept rfl

theorem rises_offerResponse (p : Port) : Rises t (t.offerResponse c p) := by
  rw [Traffic.offerResponse_eq]
  exact .of_kept rfl

/-- The end of an event lowers nothing: it examines offers and makes new ones. -/
theorem rises_settle (before : Traffic) : Rises t (t.settle c before) := by
  have hexamine : Rises t (if t.poolInUse < before.poolInUse then t.flushReady.examineBoth c else t.flushReady) := by
    split
    · exact Rises.after (rises_examineBoth t.flushReady c) rfl
    · exact .of_kept rfl
  rw [Traffic.settle_eq]
  exact hexamine.trans <| (rises_offerMemory _ c).trans <|
    (rises_offerResponse _ c .a).trans (rises_offerResponse _ c .b)

/-! ### Holds and fences -/

theorem rises_followHold (c0 c1 : Ctl) (h : Hold) : Rises t (t.followHold c0 c1 h) := by
  rw [Traffic.followHold]
  split
  · cases h <;> exact .of_kept rfl
  · exact Rises.after (rises_sweep (t.mapSlots (Slot.mapReasons fun _ r => r.put h false))) rfl
  all_goals exact .refl t

theorem rises_fenceOnset (onset : ZoneIx → Bool) : Rises t (t.fenceOnset c onset) :=
  (rises_foldl (fun t i => rises_answer t c i .fenced) t _).trans <| (rises_sweep _).trans (rises_payAttempts ..)

theorem rises_followFences (c0 c1 : Ctl) : Rises t (t.followFences c0 c1) := by
  refine Rises.trans ?_ (rises_raiseIf _ _ _)
  split
  · exact rises_fenceOnset ..
  · exact .refl t

theorem rises_react (c0 c1 : Ctl) : Rises t (t.react c0 c1) :=
  (rises_followFences t c0 c1).trans (rises_foldl (fun t h => rises_followHold t c0 c1 h) _ _)

/-! ### Ageing and re-resolution -/

theorem rises_force (r : Reasons) (age : Nat) : Rises t (t.force c i r age) :=
  (rises_forcePay t c _ _).kept_trans ((rises_count _ _ noneFalls_force).trans (rises_raise _ _)) rfl

theorem rises_turn : Rises t (t.turn c i) := by
  rw [Traffic.turn]
  split
  · split
    · exact (rises_force ..).trans (rises_sweep _)
    · exact (rises_answer ..).trans (rises_sweep _)
  all_goals exact .refl t

theorem rises_age : Rises t (t.age c) :=
  Rises.after ((rises_foldl (fun t i => rises_turn t c i) (t.mapSlots Slot.grow) _).trans (rises_payAttempts ..)) rfl

theorem rises_reResolveSlot : Rises t (t.reResolveSlot c i) := by
  have hlooked : Rises t ((t.reRefund c i).setSlot i (Traffic.relooked c (t.slot i))) :=
    (rises_refundIfPaid t c i).kept rfl
  simp only [Traffic.reResolveSlot]
  split
  · split
    · exact hlooked.trans (rises_answer ..)
    · exact hlooked
  all_goals exact .refl t

theorem rises_reResolve : Rises t (t.reResolve c) :=
  (rises_foldl (fun t i => rises_reResolveSlot t c i) t _).kept_trans
    ((rises_sweep _).trans (rises_payAttempts ..)) rfl

/-! ### Delivery and link reset -/

theorem rises_noteDelivery (o : RespOffer) : Rises t (t.noteDelivery o) := by
  rw [Traffic.noteDelivery]
  split
  · exact rises_count _ _ noneFalls_memError
  · exact .refl t

theorem rises_takeFromMemory (k : OfferKind) : Rises t (t.takeFromMemory k) := by
  cases k with
  | memory => exact Rises.after (rises_pump { t with memChannel := none } t.memBacklog) rfl
  | synthetic => exact .refl t

theorem rises_deliver (p : Port) (o : RespOffer) : Rises t (t.deliver p o) :=
  (rises_noteDelivery t o).kept_trans (rises_takeFromMemory _ _) rfl

/-- Link reset keeps the counters and the flags (R25). -/
theorem rises_emptied : Rises t (t.emptied c) :=
  Rises.after ((rises_fillCredits (t.mapSlots Slot.freed) c).kept rfl) rfl

end Path

/-! ### What a write stores -/

/-- What a write stores, if it stores anything, lowers nothing. -/
def Stores (s : State) (o : Option State) : Prop := ∀ t ∈ o, Rises s.traffic t.traffic

section Stored

variable {s : State}

theorem Stores.none : Stores s none := fun _ h => by cases h

theorem Stores.some {t : State} (h : Rises s.traffic t.traffic) : Stores s (some t) := fun _ ht => by
  cases ht
  exact h

theorem Stores.map {α : Type} {o : Option α} {g : α → State} (h : ∀ a, Rises s.traffic (g a).traffic) :
    Stores s (o.map g) := by
  cases o with
  | none => exact .none
  | some a => exact .some (h a)

theorem Stores.ite {p : Prop} [Decidable p] {t : State} (h : Rises s.traffic t.traffic) :
    Stores s (if p then Option.some t else Option.none) := by
  split
  · exact .some h
  · exact .none

end Stored

/-! ### What an event does to the path -/

section States

variable (s : State)

theorem rises_control (c : Ctl) : Rises s.traffic (s.control c).traffic :=
  (rises_react s.traffic s.ctl c).trans (rises_settle ..)

theorem rises_onPath {t : Traffic} (h : Rises s.traffic t) : Rises s.traffic (s.onPath t).traffic :=
  h.trans (rises_settle ..)

/-- A flag raised on a condition before the control side changes. -/
theorem rises_raiseIf_control (b : Bool) (e : Event) (c : Ctl) :
    Rises s.traffic ((s.raiseIf b e).control c).traffic :=
  (rises_raiseIf s.traffic b e).trans (rises_control (s.raiseIf b e) c)

theorem rises_frozenCheck : Rises s.traffic s.frozenCheck.traffic := by
  rw [State.frozenCheck]
  split
  · exact rises_raise ..
  · exact .refl _

theorem rises_drain : Rises s.traffic s.drain.traffic := by
  rw [State.drain]
  split
  · exact (rises_control s _).trans (rises_frozenCheck _)
  all_goals exact .refl _

theorem rises_resume : Rises s.traffic s.resume.traffic := by
  rw [State.resume]
  split
  · exact .refl _
  · exact rises_control ..
  · exact (rises_reResolve s.traffic _).trans (rises_settle ..)

theorem rises_resetConfig : Rises s.traffic s.resetConfig.traffic :=
  (rises_resetCredits s.traffic).trans
    (rises_control { s with traffic := s.traffic.resetCredits, due := withoutTicks s.due } _)

theorem rises_violate (k : ViolationKind) : Rises s.traffic (s.violate k).traffic := rises_raise ..

theorem rises_leaseStart : Rises s.traffic s.leaseStart.2.traffic := by
  rw [State.leaseStart]
  cases s.ctl.lease.state <;> exact .refl _

theorem rises_leaseRenew : Rises s.traffic s.leaseRenew.2.traffic := by
  rw [State.leaseRenew]
  cases s.ctl.lease.state with
  | waiting => exact rises_violate ..
  | openWindow | violated | stopped => exact .refl _

theorem rises_leaseStop : Rises s.traffic s.leaseStop.2.traffic := by
  rw [State.leaseStop]
  cases s.ctl.lease.state <;> exact .refl _

/-! ### CLEAR (R162) -/

theorem rises_clearFences : Rises s.traffic s.clearFences.2.traffic := rises_control ..

theorem rises_clearRail : Rises s.traffic s.clearRail.2.traffic := by
  rw [State.clearRail]
  split
  · exact rises_raiseIf_control ..
  all_goals exact .refl _

theorem rises_clearSurge : Rises s.traffic s.clearSurge.2.traffic := by
  rw [State.clearSurge]
  split
  · split
    · exact .refl _
    · exact rises_control ..
  all_goals exact .refl _

theorem rises_clearLease : Rises s.traffic s.clearLease.2.traffic := by
  rw [State.clearLease]
  cases s.ctl.lease.state <;> exact .refl _

theorem rises_clearIf {part : State → Bool × State} (hpart : ∀ u : State, Rises u.traffic (part u).2.traffic)
    (mask : Word) (n : Nat) (acc : Word × State) : Rises acc.2.traffic (clearIf mask n part acc).2.traffic := by
  rw [clearIf]
  split
  · exact hpart acc.2
  · exact .refl _

theorem rises_clear (mask : Word) : Rises s.traffic (s.clear mask).state.traffic := by
  rw [State.clear]
  split
  · exact (rises_clearIf rises_clearFences mask 0 (0, s)).trans <| (rises_clearIf rises_clearRail ..).trans <|
      (rises_clearIf rises_clearSurge ..).trans (rises_clearIf rises_clearLease ..)
  · exact .refl _

/-! ### WRITE (R165) -/

theorem rises_setRailMode (m : RailMode) : Rises s.traffic (s.setRailMode m).traffic := by
  rw [State.setRailMode]
  split
  · exact .refl _
  · exact rises_raiseIf_control ..

theorem rises_setSurgeMode (m : SurgeMode) : Rises s.traffic (s.setSurgeMode m).traffic := by
  rw [State.setSurgeMode]
  split
  · exact .refl _
  · exact rises_raiseIf_control ..

theorem stores_global (v : Word) (f : GlobalField) : Stores s (s.storeGlobal v f) := by
  cases f with
  | quota p =>
    exact Stores.map fun q => (rises_examineOne s.traffic { s.ctl with quotas := s.ctl.quotas.set p q } p).trans
      (rises_settle ..)
  | fenceScope => exact Stores.map fun _ => rises_control ..
  | railMode => exact Stores.map fun _ => rises_setRailMode ..
  | surgeMode => exact Stores.map fun _ => rises_setSurgeMode ..
  | refillPeriod | controlDivisor | ungovernedLimit | railFilter | surgeFilter | leaseResponse | indicatorSource =>
    exact Stores.map fun _ => .refl _
  | leaseOpen | leaseClose => exact Stores.ite (.refl _)
  | eventMask => exact .some (.refl _)
  | governorState | totalOccupancy | occupancy _ | poolBeats | railState | surgeState | leaseState | leaseTimer
  | violationKind | eventFlags | scanRound | intakeStalls _ | orphans _ | frameErrors _ => exact .none

theorem stores_sensor (z : ZoneIx) (v : Word) : Stores s (s.storeSensor z v) := by
  rw [State.storeSensor]
  split
  · exact .some (.refl _)
  · split
    · exact .none
    · exact .some (.refl _)
  · exact .none

theorem stores_mode (z : ZoneIx) (v : Word) : Stores s (s.storeMode z v) := by
  rw [State.storeMode]
  split
  · exact .none
  · exact .some (.refl _)
  · exact .some (.refl _)
  · exact .none

theorem stores_threshold (z : ZoneIx) (v : Word) (f : Int → Monitor → Monitor) :
    Stores s (s.storeThreshold z v f) := by
  rw [State.storeThreshold]
  split
  · exact .ite (.refl _)
  · exact .none

theorem stores_zone (z : ZoneIx) (v : Word) (f : ZoneField) : Stores s (s.storeZone z v f) := by
  cases f with
  | ceiling => exact Stores.map fun _ => rises_setCredit ..
  | monitorMode => exact Stores.map fun _ => rises_control ..
  | sensor => exact stores_sensor s z v
  | configuredMode => exact stores_mode s z v
  | warnLow => exact stores_threshold s z v fun x m => { m with warnLow := x }
  | warnHigh => exact stores_threshold s z v fun x m => { m with warnHigh := x }
  | shutdown => exact stores_threshold s z v fun x m => { m with shutdown := x }
  | readWeight | writeWeight | holdLimit | policy | openRate | fallbackRate | setpoint | minSamples | staleLimit
  | hysteresis | deglitch => exact Stores.map fun _ => .refl _
  | rateMin | rateMax => exact Stores.ite (.refl _)
  | kp | ki | kd => exact .some (.refl _)
  | credit _ | longestHold | sampleSum _ | sampleCount | staleRun | e1 | e2 | u _ | primed | causes | source | rate
  | warnLevel | tripState | overRun | counter _ _ => exact .none

theorem stores_channel (ch : ChanIx) (v : Word) (f : ChannelField) : Stores s (s.storeChannel ch v f) := by
  cases f with
  | enabled =>
    refine Stores.map fun b => ?_
    cases b <;> exact .refl _
  | divisor => exact Stores.ite (.refl _)
  | offset => exact Stores.map fun _ => .refl _
  | lastSample | lastValid | fault => exact .none

theorem stores_field (v : Word) (f : Field) : Stores s (s.storeField v f) := by
  cases f with
  | global f => exact stores_global s v f
  | zone z f => exact stores_zone s z v f
  | window w f => exact Stores.map fun _ => .refl _
  | channel ch f => exact stores_channel s ch v f
  | slot _ _ | snapshot _ => exact .none

theorem rises_writeReply (v : Word) : Rises s.traffic (s.writeReply v).state.traffic := by
  cases hf : s.pointed with
  | none =>
    rw [State.writeReply, hf]
    exact .refl _
  | some f =>
    rw [writeReply_of_pointed hf]
    cases hg : s.gate f with
    | some st =>
      rw [writeTo_of_gate hg]
      exact .refl _
    | none =>
      cases hstore : s.storeField v f with
      | none =>
        rw [writeTo_none hg]
        exact .refl _
      | some t =>
        rw [writeTo_some hg]
        exact stores_field s v f t hstore

/-! ### The other frames -/

theorem rises_selectObject (cls : BitVec 8) (index : Word) :
    Rises s.traffic (s.selectObject cls index).state.traffic := by
  rw [State.selectObject]
  split <;> exact .refl _

theorem rises_selectField (n : Word) : Rises s.traffic (s.selectField n).state.traffic := by
  rw [State.selectField]
  split <;> exact .refl _

theorem rises_readReply : Rises s.traffic s.readReply.state.traffic := by
  rw [State.readReply]
  split <;> exact .refl _

end States

/-! ### Commands -/

/-- The outcome's next state, if there is one, has no flag of `s` cleared and no counter fallen, the frame errors
included. -/
def Leads (s : State) (o : Host.Outcome State Fault Refusal) : Prop :=
  ∀ t, o = .next t → Rises s.traffic t.traffic ∧ s.link.frameErrors ≤ t.link.frameErrors

section Commands

variable {s : State}

theorem Leads.next {t : State} (h : Rises s.traffic t.traffic) (hlink : t.link = s.link) :
    Leads s (.next t) := by
  rintro _ ⟨⟩
  exact ⟨h, hlink ▸ BitVec.le_refl _⟩

theorem Leads.stay : Leads s (.next s) := .next (.refl _) rfl

theorem Leads.released : Leads s (.next s.csReleased) := by
  rintro _ ⟨⟩
  exact ⟨.refl _, BitVec.le_refl _⟩

theorem Leads.refused (r : Refusal) : Leads s (.refused r) := fun _ h => by cases h

/-- A frame is taken, or it is the release that the link waits for (R157, R176). -/
theorem frame_cases {f : State → Reply} {t : State} (h : s.frame f = .next t) :
    t = s.csReleased ∨ t = (f s).ended := by
  cases hwait : s.link.awaitRelease with
  | true =>
    rw [State.frame_waiting f hwait] at h
    exact .inl (Host.Outcome.next.inj h).symm
  | false =>
    rw [State.frame_taken f hwait] at h
    exact .inr (Host.Outcome.next.inj h).symm

/-- A frame leads where its command does. -/
theorem Leads.frame {f : State → Reply} (h : Rises s.traffic (f s).state.traffic)
    (hlink : (f s).state.link.frameErrors = s.link.frameErrors) : Leads s (s.frame f) := by
  intro t ht
  obtain rfl | rfl := frame_cases ht
  · exact ⟨.refl _, BitVec.le_refl _⟩
  · exact ⟨h, hlink ▸ BitVec.le_refl _⟩

variable (s)

/-! ### The bus ports -/

theorem leads_resetNAssert : Leads s (exec .resetNAssert s) := by
  change Leads s (execResetNAssert s)
  rw [execResetNAssert]
  split
  · exact .stay
  · exact .next ((rises_emptied s.traffic s.ctl).trans (rises_pump ..)) rfl

theorem leads_resetNRelease : Leads s (exec .resetNRelease s) := by
  change Leads s (execResetNRelease s)
  simp only [execResetNRelease]
  split
  · exact .next ((rises_examineBoth ..).trans (rises_settle ..)) rfl
  · exact .stay

theorem leads_requestOffer (p : Port) (r : Request) : Leads s (exec (.requestOffer p r) s) := by
  change Leads s (execRequestOffer p r s)
  rw [execRequestOffer]
  split
  · split
    · exact .stay
    · exact .next (rises_onPath s (Rises.after (rises_examineOne ..) rfl)) rfl
  · exact .refused _

theorem leads_requestTake (p : Port) : Leads s (exec (.requestTake p) s) := by
  change Leads s (execRequestTake p s)
  rw [execRequestTake]
  split
  · exact .next (rises_onPath s (rises_take ..)) rfl
  · exact .stay

theorem leads_memoryTake : Leads s (exec .memoryTake s) := by
  change Leads s (execMemoryTake s)
  rw [execMemoryTake]
  split
  · split
    · exact .next (rises_onPath s (rises_forward ..)) rfl
    · exact .stay
  all_goals exact .stay

theorem leads_delivery (p : Port) : Leads s (exec (.delivery p) s) := by
  change Leads s (execDelivery p s)
  simp only [execDelivery]
  split
  · exact .stay
  · rename_i o _
    have hcheck : Rises s.traffic ({ s with traffic := s.traffic.deliver p o } : State).frozenCheck.traffic :=
      (rises_deliver s.traffic p o).trans (rises_frozenCheck { s with traffic := s.traffic.deliver p o })
    exact .next (hcheck.trans (rises_onPath _ (rises_examineBoth ..))) (frozenCheck_link _)

/-! ### Sampling, ticks, monitors, lease -/

theorem leads_conversionCompletion (raw : Int) : Leads s (exec (.conversionCompletion raw) s) := by
  change Leads s (execConversionCompletion raw s)
  simp only [execConversionCompletion]
  split
  · exact .stay
  · split
    · exact .next (.refl _) rfl
    · exact .next ((rises_raiseIf s.traffic _ _).trans (rises_raiseIf_control (s.raiseIf _ _) ..)) rfl

theorem leads_conversionFault : Leads s (exec .conversionFault s) := by
  change Leads s (execConversionFault s)
  simp only [execConversionFault]
  split
  · exact .stay
  · split
    · exact .next (.refl _) rfl
    · exact .next (rises_raiseIf ..) rfl

theorem leads_emptyRoundEnd : Leads s (exec .emptyRoundEnd s) := by
  change Leads s (execEmptyRoundEnd s)
  rw [execEmptyRoundEnd]
  split
  · exact .next (.refl _) rfl
  · exact .stay

theorem leads_railgoodFall : Leads s (exec .railgoodFall s) := by
  change Leads s (execRailgoodFall s)
  rw [execRailgoodFall]
  split
  · exact .next (rises_raiseIf_control ..) rfl
  · exact .stay

theorem leads_railgoodRise : Leads s (exec .railgoodRise s) := by
  change Leads s (execRailgoodRise s)
  rw [execRailgoodRise]
  split
  · exact .stay
  · exact .next (rises_raiseIf_control ..) rfl

theorem leads_railFilterExpiry : Leads s (exec .railFilterExpiry s) := by
  change Leads s (execRailFilterExpiry s)
  rw [execRailFilterExpiry]
  split
  · exact .next (rises_raiseIf_control ..) rfl
  all_goals exact .stay

theorem leads_surgeAssert : Leads s (exec .surgeAssert s) := by
  change Leads s (execSurgeAssert s)
  simp only [execSurgeAssert]
  split
  · exact .stay
  · exact .next (rises_raiseIf_control ..) rfl

theorem leads_surgeDeassert : Leads s (exec .surgeDeassert s) := by
  change Leads s (execSurgeDeassert s)
  rw [execSurgeDeassert]
  split
  · exact .next (rises_control ..) rfl
  · exact .stay

theorem leads_surgeFilterExpiry : Leads s (exec .surgeFilterExpiry s) := by
  change Leads s (execSurgeFilterExpiry s)
  rw [execSurgeFilterExpiry]
  split
  · exact .next (rises_raiseIf_control ..) rfl
  all_goals exact .stay

theorem leads_leaseOpenTime : Leads s (exec .leaseOpenTime s) := by
  change Leads s (execLeaseOpenTime s)
  rw [execLeaseOpenTime]
  split
  · exact .next (.refl _) rfl
  all_goals exact .stay

theorem leads_leaseCloseTime : Leads s (exec .leaseCloseTime s) := by
  change Leads s (execLeaseCloseTime s)
  rw [execLeaseCloseTime]
  split
  · split
    · exact .stay
    · exact .next (rises_violate (s.withLease _) .late) rfl
  all_goals exact .stay

/-! ### The link -/

/-- FRAME_ERROR is the one command that counts frame errors (R159). -/
theorem leads_frameError (n : Nat) : Leads s (exec (.frameError n) s) := by
  change Leads s (execFrameError n s)
  rw [execFrameError]
  split
  · exact .refused _
  · split
    · exact .released
    · rintro _ ⟨⟩
      exact ⟨rises_raise .., le_satAdd ..⟩

theorem leads_csNAssert : Leads s (exec .csNAssert s) := by
  change Leads s (execCsNAssert s)
  rw [execCsNAssert]
  split
  · exact .stay
  · rintro _ ⟨⟩
    exact ⟨.refl _, BitVec.le_refl _⟩

theorem leads_powerOnCsNRelease : Leads s (exec .powerOnCsNRelease s) := by
  change Leads s (execPowerOnCsNRelease s)
  rw [execPowerOnCsNRelease]
  split
  · exact .released
  · exact .stay

theorem leads_unknown (code : BitVec 8) : Leads s (exec (.unknown code) s) := by
  change Leads s (execUnknown code s)
  rw [execUnknown]
  split
  · exact .refused _
  · exact .frame (.refl _) rfl

theorem leads_write (v : Word) : Leads s (exec (.write v) s) :=
  Leads.frame (f := (·.writeReply v)) (rises_writeReply s v) (congrArg Link.frameErrors (writeReply_link s v) :)

/-- A row named by its field leads where WRITE does (log entry 7). -/
theorem leads_namedWrite {i : Instr} {v : Word} (h : namedWrite i = some v) : Leads s (exec i s) :=
  exec_eq_write h s ▸ leads_write s v

theorem leads_clearPart (n : Nat) {part : State → Bool × State} (hpath : Rises s.traffic (part s).2.traffic)
    (hlink : (part s).2.link = s.link) : Leads s (s.frame fun s => clearReply (clearPart n part (0, s))) :=
  .frame hpath (congrArg Link.frameErrors hlink)

theorem leads_governor {f : State → State} (hpath : Rises s.traffic (f s).traffic) (hlink : (f s).link = s.link) :
    Leads s (s.frame fun s => governorReply .done (f s)) :=
  .frame hpath (congrArg Link.frameErrors hlink)

theorem leads_lease {f : State → Status × State} (hpath : Rises s.traffic (f s).2.traffic)
    (hlink : (f s).2.link = s.link) : Leads s (s.frame fun s => leaseReply (f s)) :=
  .frame hpath (congrArg Link.frameErrors hlink)

theorem leads_resetConfig : Leads s (exec .resetConfig s) := by
  refine Leads.frame (f := fun s =>
    if s.mayResetConfig then governorReply .done s.resetConfig else governorReply .busy s) ?_ ?_
  · cases s.mayResetConfig with
    | true => exact rises_resetConfig s
    | false => exact .refl _
  · cases s.mayResetConfig <;> rfl

/-- Every command but power-on reset, READ_EVENTS and SNAPSHOT keeps the set flags and lowers no counter. -/
theorem leads_exec {i : Instr} (hreset : i ≠ .powerOnReset) (hevents : i ≠ .readEvents)
    (hsnapshot : ∀ arg v, i ≠ .snapshot arg v) : Leads s (exec i s) := by
  cases i with
  | powerOnReset => exact absurd rfl hreset
  | readEvents => exact absurd rfl hevents
  | snapshot arg v => exact absurd rfl (hsnapshot arg v)
  | resetNAssert => exact leads_resetNAssert s
  | resetNRelease => exact leads_resetNRelease s
  | requestOffer p r => exact leads_requestOffer s p r
  | requestTake p => exact leads_requestTake s p
  | memoryOffer => exact .next (rises_offerMemory ..) rfl
  | memoryTake => exact leads_memoryTake s
  | memoryResponse m => exact .next (rises_onPath s (rises_receive ..)) rfl
  | responseOffer p => exact .next (rises_offerResponse ..) rfl
  | delivery p => exact leads_delivery s p
  | refillTick => exact .next (rises_onPath s ((rises_refill ..).trans (rises_payAttempts ..))) rfl
  | ageTick => exact .next (rises_onPath s (rises_age ..)) rfl
  | cycleBoundary => exact .next (rises_control ..) rfl
  | controlTick => exact .next (rises_raiseIf_control ..) rfl
  | conversionCompletion raw => exact leads_conversionCompletion s raw
  | conversionFault => exact leads_conversionFault s
  | emptyRoundEnd => exact leads_emptyRoundEnd s
  | railgoodFall => exact leads_railgoodFall s
  | railgoodRise => exact leads_railgoodRise s
  | railFilterExpiry => exact leads_railFilterExpiry s
  | surgeAssert => exact leads_surgeAssert s
  | surgeDeassert => exact leads_surgeDeassert s
  | surgeFilterExpiry => exact leads_surgeFilterExpiry s
  | leaseOpenTime => exact leads_leaseOpenTime s
  | leaseCloseTime => exact leads_leaseCloseTime s
  | frozenEntry => exact .next (rises_frozenCheck s) (frozenCheck_link s)
  | frameError n => exact leads_frameError s n
  | csNAssert => exact leads_csNAssert s
  | powerOnCsNRelease => exact leads_powerOnCsNRelease s
  | repetitionPeriodStart => exact .next (.refl _) rfl
  | nop => exact .frame (.refl _) rfl
  | unknown code => exact leads_unknown s code
  | selectObject cls index =>
    obtain ⟨o, n, hlink⟩ := selectObject_link s cls index
    exact .frame (f := (·.selectObject cls index)) (rises_selectObject s cls index) (congrArg Link.frameErrors hlink :)
  | selectField n =>
    obtain ⟨k, hlink⟩ := selectField_link s n
    exact .frame (f := (·.selectField n)) (rises_selectField s n) (congrArg Link.frameErrors hlink :)
  | read => exact .frame (f := State.readReply) (rises_readReply s) (congrArg Link.frameErrors (readReply_link s) :)
  | write v => exact leads_write s v
  | refillPeriodWrite v | controlDivisorWrite v | quotaWrite v | ceilingWrite v | configuredModeWrite v
  | sensorWrite v | openRateWrite v | fallbackRateWrite v | rateMinWrite v | rateMaxWrite v | channelEnableWrite v
  | monitorModeWrite v | fenceScopeWrite v | railModeWrite v | surgeModeWrite v | indicatorSourceWrite v
  | eventMaskWrite v => exact leads_namedWrite s rfl
  | clear mask =>
    exact .frame (f := (·.clear mask)) (rises_clear s mask) (congrArg Link.frameErrors (clear_link s mask) :)
  | clearFences => exact leads_clearPart s 0 (rises_clearFences s) rfl
  | clearRail => exact leads_clearPart s 1 (rises_clearRail s) (clearRail_link s)
  | clearSurge => exact leads_clearPart s 2 (rises_clearSurge s) (clearSurge_link s)
  | clearLease => exact leads_clearPart s 3 (rises_clearLease s) (clearLease_link s)
  | drain => exact leads_governor s (rises_drain s) (drain_link s)
  | resume => exact leads_governor s (rises_resume s) (resume_link s)
  | resetConfig => exact leads_resetConfig s
  | leaseStart => exact leads_lease s (rises_leaseStart s) (leaseStart_link s)
  | leaseRenew => exact leads_lease s (rises_leaseRenew s) (leaseRenew_link s)
  | leaseStop => exact leads_lease s (rises_leaseStop s) (leaseStop_link s)

/-! ### READ_EVENTS and SNAPSHOT (R170, R173) -/

variable {s}

/-- READ_EVENTS changes no more of the path than the flags, and no frame error. -/
theorem readEvents_keeps {t : State} (h : exec .readEvents s = .next t) :
    (∃ f, t.traffic = { s.traffic with flags := f }) ∧ t.link.frameErrors = s.link.frameErrors := by
  change execReadEvents s = _ at h
  rw [execReadEvents] at h
  obtain rfl | rfl := frame_cases h
  · exact ⟨⟨s.traffic.flags, rfl⟩, rfl⟩
  · exact ⟨⟨_, rfl⟩, rfl⟩

theorem snapshotReply_keeps (s : State) (arg : BitVec 8) (v : Word) :
    ∃ a, (s.snapshotReply arg v).state.traffic = { s.traffic with accounts := a } := by
  rw [State.snapshotReply]
  split
  · split
    · exact ⟨_, Events.takeSnapshot_traffic s _ _⟩
    · exact ⟨s.traffic.accounts, rfl⟩
  · exact ⟨s.traffic.accounts, rfl⟩

/-- SNAPSHOT changes no more of the path than the accounts, and no frame error. -/
theorem snapshot_keeps {arg : BitVec 8} {v : Word} {t : State} (h : exec (.snapshot arg v) s = .next t) :
    (∃ a, t.traffic = { s.traffic with accounts := a }) ∧ t.link.frameErrors = s.link.frameErrors := by
  obtain rfl | rfl := frame_cases (f := (·.snapshotReply arg v)) h
  · exact ⟨⟨s.traffic.accounts, rfl⟩, rfl⟩
  · exact ⟨snapshotReply_keeps s arg v, (congrArg Link.frameErrors (snapshotReply_link s arg v) :)⟩

end Commands

/-- Settles O59: READ_EVENTS changes only the flags, SNAPSHOT only the accounts, and no other command but power-on reset
clears a flag or lowers a counter. -/
theorem flagsStaySetAndCountersRise : Obligations.FlagsStaySetAndCountersRise := by
  unfold Obligations.FlagsStaySetAndCountersRise
  refine ⟨satAdd_toNat, fun i s t h hreset => ?_⟩
  by_cases hevents : i = .readEvents
  · subst hevents
    obtain ⟨⟨f, htraffic⟩, herrors⟩ := readEvents_keeps h
    rw [htraffic, herrors]
    exact ⟨fun hne => absurd rfl hne, BitVec.le_refl _, BitVec.le_refl _, BitVec.le_refl _,
      fun _ _ _ => BitVec.le_refl _⟩
  by_cases hsnapshot : ∃ arg v, i = .snapshot arg v
  · obtain ⟨arg, v, rfl⟩ := hsnapshot
    obtain ⟨⟨a, htraffic⟩, herrors⟩ := snapshot_keeps h
    rw [htraffic, herrors]
    exact ⟨fun _ _ hn => hn, BitVec.le_refl _, BitVec.le_refl _, BitVec.le_refl _,
      fun hne => absurd rfl (hne arg v)⟩
  · obtain ⟨hpath, herrors⟩ := leads_exec s hreset hevents (fun arg v hi => hsnapshot ⟨arg, v, hi⟩) t h
    exact ⟨fun _ => hpath.flags, hpath.intakeStalls, hpath.orphans, herrors, fun _ => hpath.counters⟩

end Sys2Proof.Rising

/-! PROOF. Every command completes: a well-formed command answers a next state in every state, whatever branch it takes,
and only power-on reset, RESET_CONFIG and the writes of the two timer fields touch what waits to be taken. -/

namespace Sys2Proof.Completion

open Sys2Proof.Machine Sys2Proof.Claims Sys2Proof.FieldWrites Sys2Proof.FrameEnds

/-! ### What waits to be taken (log entries 1, 3 and 4) -/

/-- The commands and the expiries that wait, with the count that orders the expiries. -/
def waiting (s : State) : List Instr × List Instr × Nat := (s.pending, s.due, s.freeCount)

/-- From `s` to `t` only expiries that wait are taken away. -/
structure Undoes (s t : State) : Prop where
  pending : t.pending = s.pending
  freeCount : t.freeCount = s.freeCount
  due : t.due.Sublist s.due

theorem waiting_eq_iff {s t : State} :
    waiting t = waiting s ↔ t.pending = s.pending ∧ t.due = s.due ∧ t.freeCount = s.freeCount := by
  simp only [waiting, Prod.mk.injEq]

/-- What leaves all that waits undoes none of it. -/
theorem Undoes.none {s t : State} (h : waiting t = waiting s) : Undoes s t := by
  obtain ⟨hpending, hdue, hcount⟩ := waiting_eq_iff.1 h
  exact ⟨hpending, hcount, hdue ▸ List.Sublist.refl _⟩

/-! ### Outcomes -/

/-- The outcome is a next state, and it has the property `q`. -/
def Answers (q : State → Prop) (o : Host.Outcome State Fault Refusal) : Prop := ∃ t, o = .next t ∧ q t

section Outcomes

variable {q : State → Prop} {s : State}

theorem Answers.next {t : State} (h : q t) : Answers q (.next t) := ⟨t, rfl, h⟩

theorem Answers.ite {p : Prop} [Decidable p] {a b : Host.Outcome State Fault Refusal} (ha : Answers q a)
    (hb : Answers q b) : Answers q (if p then a else b) := by
  split
  · exact ha
  · exact hb

/-- A frame answers, whether it is taken or is the release that the link waits for, and the link's own work at its end
undoes nothing (R157, R176). -/
theorem answers_frame {f : State → Reply} (h : Undoes s (f s).state) : Answers (Undoes s) (s.frame f) :=
  .ite (.next (.none rfl)) (.next ⟨h.pending, h.freeCount, h.due⟩)

end Outcomes

/-! ### Effects that leave all that waits -/

section Effects

variable (s : State)

theorem frozenCheck_waiting : waiting s.frozenCheck = waiting s := by
  rw [State.frozenCheck]
  split <;> rfl

theorem drain_waiting : waiting s.drain = waiting s := by
  rw [State.drain]
  cases s.ctl.governor with
  | run => exact frozenCheck_waiting _
  | draining | frozen => rfl

theorem resume_waiting : waiting s.resume = waiting s := by
  rw [State.resume]
  cases s.ctl.governor <;> rfl

theorem leaseStart_waiting : waiting s.leaseStart.2 = waiting s := by
  rw [State.leaseStart]
  cases s.ctl.lease.state <;> rfl

theorem leaseRenew_waiting : waiting s.leaseRenew.2 = waiting s := by
  rw [State.leaseRenew]
  cases s.ctl.lease.state <;> rfl

theorem leaseStop_waiting : waiting s.leaseStop.2 = waiting s := by
  rw [State.leaseStop]
  cases s.ctl.lease.state <;> rfl

theorem clearRail_waiting : waiting s.clearRail.2 = waiting s := by
  rw [State.clearRail]
  cases s.ctl.railState <;> rfl

theorem clearSurge_waiting : waiting s.clearSurge.2 = waiting s := by
  rw [State.clearSurge]
  cases s.ctl.surgeState with
  | tripped => cases s.ctl.surgeAsserted <;> rfl
  | idle | armed | filtering n => rfl

theorem clearLease_waiting : waiting s.clearLease.2 = waiting s := by
  rw [State.clearLease]
  cases s.ctl.lease.state <;> rfl

/-- A part of CLEAR that leaves what waits leaves it in the chain of parts (R162). -/
theorem clearIf_waiting {part : State → Bool × State} (hpart : ∀ u, waiting (part u).2 = waiting u) (mask : Word)
    (n : Nat) (acc : Word × State) : waiting (clearIf mask n part acc).2 = waiting acc.2 := by
  rw [clearIf]
  split
  · exact hpart acc.2
  · rfl

theorem clear_waiting (mask : Word) : waiting (s.clear mask).state = waiting s := by
  rw [State.clear]
  split
  · calc
      _ = _ := clearIf_waiting clearLease_waiting mask 3 _
      _ = _ := clearIf_waiting clearSurge_waiting mask 2 _
      _ = _ := clearIf_waiting clearRail_waiting mask 1 _
      _ = waiting s := clearIf_waiting (fun _ => rfl) mask 0 (0, s)
  · rfl

theorem snapshotReply_waiting (arg : BitVec 8) (v : Word) :
    waiting (s.snapshotReply arg v).state = waiting s := by
  rw [State.snapshotReply]
  split
  · split <;> rfl
  · rfl

theorem readReply_waiting : waiting s.readReply.state = waiting s := by
  rw [State.readReply]
  cases s.pointed <;> rfl

theorem selectObject_waiting (cls : BitVec 8) (index : Word) :
    waiting (s.selectObject cls index).state = waiting s := by
  rw [State.selectObject]
  cases objectOf cls index <;> rfl

theorem selectField_waiting (n : Word) : waiting (s.selectField n).state = waiting s := by
  rw [State.selectField]
  split <;> rfl

theorem setRailMode_waiting (m : RailMode) : waiting (s.setRailMode m) = waiting s := by
  rw [State.setRailMode]
  split <;> rfl

theorem setSurgeMode_waiting (m : SurgeMode) : waiting (s.setSurgeMode m) = waiting s := by
  rw [State.setSurgeMode]
  split <;> rfl

/-- RESET_CONFIG restarts both timers (R155). -/
theorem undoes_resetConfig : Undoes s s.resetConfig := ⟨rfl, rfl, withoutTicks_sublist s.due⟩

end Effects

/-! ### WRITE (R165) -/

/-- What a write stores, if it stores anything, undoes expiries that wait at most. -/
def Stores (s : State) (o : Option State) : Prop := ∀ t ∈ o, Undoes s t

section Writes

variable {s : State}

theorem Stores.none : Stores s none := fun _ h => by cases h

theorem Stores.some {t : State} (h : Undoes s t) : Stores s (some t) := fun _ ht => by
  cases ht
  exact h

theorem Stores.map {α : Type} {o : Option α} {g : α → State} (h : ∀ a, Undoes s (g a)) : Stores s (o.map g) := by
  cases o with
  | none => exact .none
  | some a => exact .some (h a)

theorem Stores.ite {p : Prop} [Decidable p] {t : State} (h : Undoes s t) :
    Stores s (if p then Option.some t else Option.none) := by
  split
  · exact .some h
  · exact .none

variable (s)

/-- Of the GLOBAL fields the refill period and the control divisor restart timers (R60, R111). -/
theorem stores_global (v : Word) (f : GlobalField) : Stores s (s.storeGlobal v f) := by
  cases f with
  | refillPeriod => exact Stores.map fun _ => ⟨rfl, rfl, withoutTicks_sublist s.due⟩
  | controlDivisor => exact Stores.map fun _ => ⟨rfl, rfl, withoutControl_sublist s.due⟩
  | railMode => exact Stores.map fun m => .none (setRailMode_waiting s m)
  | surgeMode => exact Stores.map fun m => .none (setSurgeMode_waiting s m)
  | quota _ | ungovernedLimit | fenceScope | railFilter | surgeFilter | leaseResponse | indicatorSource =>
    exact Stores.map fun _ => .none rfl
  | leaseOpen | leaseClose => exact Stores.ite (.none rfl)
  | eventMask => exact .some (.none rfl)
  | governorState | totalOccupancy | occupancy _ | poolBeats | railState | surgeState | leaseState | leaseTimer
  | violationKind | eventFlags | scanRound | intakeStalls _ | orphans _ | frameErrors _ => exact .none

theorem stores_sensor (z : ZoneIx) (v : Word) : Stores s (s.storeSensor z v) := by
  rw [State.storeSensor]
  split
  · exact .some (.none rfl)
  · split
    · exact .none
    · exact .some (.none rfl)
  · exact .none

theorem stores_mode (z : ZoneIx) (v : Word) : Stores s (s.storeMode z v) := by
  rw [State.storeMode]
  split
  · exact .none
  · exact .some (.none rfl)
  · exact .some (.none rfl)
  · exact .none

theorem stores_threshold (z : ZoneIx) (v : Word) (g : Int → Monitor → Monitor) :
    Stores s (s.storeThreshold z v g) := by
  rw [State.storeThreshold]
  split
  · exact .ite (.none rfl)
  · exact .none

theorem stores_zone (z : ZoneIx) (v : Word) (f : ZoneField) : Stores s (s.storeZone z v f) := by
  cases f with
  | sensor => exact stores_sensor s z v
  | configuredMode => exact stores_mode s z v
  | warnLow => exact stores_threshold s z v fun x m => { m with warnLow := x }
  | warnHigh => exact stores_threshold s z v fun x m => { m with warnHigh := x }
  | shutdown => exact stores_threshold s z v fun x m => { m with shutdown := x }
  | ceiling | readWeight | writeWeight | holdLimit | policy | openRate | fallbackRate | setpoint | minSamples
  | staleLimit | monitorMode | hysteresis | deglitch => exact Stores.map fun _ => .none rfl
  | rateMin | rateMax => exact Stores.ite (.none rfl)
  | kp | ki | kd => exact .some (.none rfl)
  | credit _ | longestHold | sampleSum _ | sampleCount | staleRun | e1 | e2 | u _ | primed | causes | source | rate
  | warnLevel | tripState | overRun | counter _ _ => exact .none

theorem stores_channel (ch : ChanIx) (v : Word) (f : ChannelField) : Stores s (s.storeChannel ch v f) := by
  cases f with
  | enabled =>
    refine Stores.map fun b => .none ?_
    cases b <;> rfl
  | divisor => exact Stores.ite (.none rfl)
  | offset => exact Stores.map fun _ => .none rfl
  | lastSample | lastValid | fault => exact .none

theorem stores_field (v : Word) (f : Field) : Stores s (s.storeField v f) := by
  cases f with
  | global f => exact stores_global s v f
  | zone z f => exact stores_zone s z v f
  | window w f => exact Stores.map fun _ => .none rfl
  | channel ch f => exact stores_channel s ch v f
  | slot _ _ | snapshot _ => exact .none

/-- WRITE undoes what its field's store undoes: the report that follows it touches the pointer alone. -/
theorem undoes_writeReply (v : Word) : Undoes s (s.writeReply v).state := by
  cases hf : s.pointed with
  | none =>
    rw [State.writeReply, hf]
    exact .none rfl
  | some f =>
    rw [writeReply_of_pointed hf]
    cases hg : s.gate f with
    | some st =>
      rw [writeTo_of_gate hg]
      exact .none rfl
    | none =>
      cases hstore : s.storeField v f with
      | none =>
        rw [writeTo_none hg]
        exact .none rfl
      | some t =>
        rw [writeTo_some hg]
        obtain ⟨hpending, hcount, hdue⟩ := stores_field s v f t hstore
        exact ⟨hpending, hcount, hdue⟩

end Writes

/-! ### The frames (R157) -/

section Frames

variable (s : State)

theorem answers_write (v : Word) : Answers (Undoes s) (exec (.write v) s) :=
  answers_frame (f := (·.writeReply v)) (undoes_writeReply s v)

/-- A row named by its field answers where WRITE does (log entry 7). -/
theorem answers_namedWrite {i : Instr} {v : Word} (h : namedWrite i = some v) : Answers (Undoes s) (exec i s) :=
  exec_eq_write h s ▸ answers_write s v

theorem answers_unknown {code : BitVec 8} (h : (Instr.unknown code).wellFormed = true) :
    Answers (Undoes s) (exec (.unknown code) s) := by
  change Answers (Undoes s) (execUnknown code s)
  have hcode : ¬ frameCodes.contains code = true := Bool.eq_false_iff.1 (Bool.not_eq_true' _ ▸ h)
  rw [execUnknown, if_neg hcode]
  exact answers_frame (.none rfl)

theorem answers_clearPart (n : Nat) {part : State → Bool × State} (h : waiting (part s).2 = waiting s) :
    Answers (Undoes s) (s.frame fun s => clearReply (clearPart n part (0, s))) := answers_frame (.none h)

theorem answers_governor {effect : State → State} (h : waiting (effect s) = waiting s) :
    Answers (Undoes s) (s.frame fun s => governorReply .done (effect s)) := answers_frame (.none h)

theorem answers_lease {effect : State → Status × State} (h : waiting (effect s).2 = waiting s) :
    Answers (Undoes s) (s.frame fun s => leaseReply (effect s)) := answers_frame (.none h)

theorem answers_resetConfig : Answers (Undoes s) (exec .resetConfig s) := by
  change Answers (Undoes s) (execResetConfig s)
  rw [execResetConfig]
  refine answers_frame ?_
  cases s.mayResetConfig with
  | true => exact undoes_resetConfig s
  | false => exact .none rfl

/-- Every well-formed frame answers, taken or not, and undoes expiries that wait at most. -/
theorem answers_of_isFrame {i : Instr} (hframe : isFrame i = true) (hwell : i.wellFormed = true) :
    Answers (Undoes s) (exec i s) := by
  cases i with
  | nop => exact answers_frame (.none rfl)
  | unknown code => exact answers_unknown s hwell
  | selectObject cls index =>
    exact answers_frame (f := (·.selectObject cls index)) (.none (selectObject_waiting s cls index))
  | selectField n => exact answers_frame (f := (·.selectField n)) (.none (selectField_waiting s n))
  | read => exact answers_frame (.none (readReply_waiting s))
  | write v => exact answers_write s v
  | refillPeriodWrite v | controlDivisorWrite v | quotaWrite v | ceilingWrite v | configuredModeWrite v
  | sensorWrite v | openRateWrite v | fallbackRateWrite v | rateMinWrite v | rateMaxWrite v | channelEnableWrite v
  | monitorModeWrite v | fenceScopeWrite v | railModeWrite v | surgeModeWrite v | indicatorSourceWrite v
  | eventMaskWrite v => exact answers_namedWrite s rfl
  | clear mask => exact answers_frame (f := (·.clear mask)) (.none (clear_waiting s mask))
  | clearFences => exact answers_clearPart s 0 (part := State.clearFences) rfl
  | clearRail => exact answers_clearPart s 1 (clearRail_waiting s)
  | clearSurge => exact answers_clearPart s 2 (clearSurge_waiting s)
  | clearLease => exact answers_clearPart s 3 (clearLease_waiting s)
  | drain => exact answers_governor s (drain_waiting s)
  | resume => exact answers_governor s (resume_waiting s)
  | resetConfig => exact answers_resetConfig s
  | leaseStart => exact answers_lease s (leaseStart_waiting s)
  | leaseRenew => exact answers_lease s (leaseRenew_waiting s)
  | leaseStop => exact answers_lease s (leaseStop_waiting s)
  | snapshot arg v => exact answers_frame (f := (·.snapshotReply arg v)) (.none (snapshotReply_waiting s arg v))
  | readEvents =>
    change Answers (Undoes s) (execReadEvents s)
    rw [execReadEvents]
    exact answers_frame (.none rfl)
  | _ => cases hframe

end Frames

/-! ### The other commands -/

/-- The outcome is a next state in which all that waits in `s` still waits. -/
abbrev Keeps (s : State) : Host.Outcome State Fault Refusal → Prop := Answers (waiting · = waiting s)

section Events

variable (s : State)

theorem keeps_requestOffer (p : Port) {r : Request} (h : r.wellFormed = true) :
    Keeps s (exec (.requestOffer p r) s) := by
  change Keeps s (execRequestOffer p r s)
  rw [execRequestOffer, if_pos h]
  cases s.traffic.offers.get p <;> exact .next rfl

theorem keeps_memoryTake : Keeps s (exec .memoryTake s) := by
  change Keeps s (execMemoryTake s)
  rw [execMemoryTake]
  split
  · exact .ite (.next rfl) (.next rfl)
  all_goals exact .next rfl

theorem keeps_delivery (p : Port) : Keeps s (exec (.delivery p) s) := by
  change Keeps s (execDelivery p s)
  rw [execDelivery]
  cases s.traffic.resps.get p with
  | none => exact .next rfl
  | some o => exact .next (frozenCheck_waiting { s with traffic := s.traffic.deliver p o })

theorem keeps_conversionCompletion (raw : Int) : Keeps s (exec (.conversionCompletion raw) s) := by
  change Keeps s (execConversionCompletion raw s)
  rw [execConversionCompletion]
  cases s.ctl.conversion with
  | none => exact .next rfl
  | some v => exact .ite (.next rfl) (.next rfl)

theorem keeps_conversionFault : Keeps s (exec .conversionFault s) := by
  change Keeps s (execConversionFault s)
  rw [execConversionFault]
  cases s.ctl.conversion with
  | none => exact .next rfl
  | some v => exact .ite (.next rfl) (.next rfl)

theorem keeps_emptyRoundEnd : Keeps s (exec .emptyRoundEnd s) := by
  change Keeps s (execEmptyRoundEnd s)
  rw [execEmptyRoundEnd]
  cases s.ctl.conversion <;> exact .next rfl

theorem keeps_railFilterExpiry : Keeps s (exec .railFilterExpiry s) := by
  change Keeps s (execRailFilterExpiry s)
  rw [execRailFilterExpiry]
  cases s.ctl.railState <;> exact .next rfl

theorem keeps_surgeFilterExpiry : Keeps s (exec .surgeFilterExpiry s) := by
  change Keeps s (execSurgeFilterExpiry s)
  rw [execSurgeFilterExpiry]
  cases s.ctl.surgeState <;> exact .next rfl

theorem keeps_leaseOpenTime : Keeps s (exec .leaseOpenTime s) := by
  change Keeps s (execLeaseOpenTime s)
  rw [execLeaseOpenTime]
  cases s.ctl.lease.state <;> exact .next rfl

theorem keeps_leaseCloseTime : Keeps s (exec .leaseCloseTime s) := by
  change Keeps s (execLeaseCloseTime s)
  rw [execLeaseCloseTime]
  cases s.ctl.lease.state with
  | openWindow => exact .ite (.next rfl) (.next rfl)
  | stopped | waiting | violated => exact .next rfl

/-- A frame of other than 32 edges is a frame error or the release that the link waits for (R159, R176). -/
theorem keeps_frameError {edges : Nat} (h : (Instr.frameError edges).wellFormed = true) :
    Keeps s (exec (.frameError edges) s) := by
  change Keeps s (execFrameError edges s)
  rw [execFrameError, if_neg (of_decide_eq_true h)]
  exact .ite (.next rfl) (.next rfl)

/-- Every well-formed command but a frame and power-on reset answers and leaves all that waits. -/
theorem keeps_of_not_isFrame {i : Instr} (hframe : isFrame i = false) (hreset : i ≠ .powerOnReset)
    (hwell : i.wellFormed = true) : Keeps s (exec i s) := by
  cases i with
  | powerOnReset => exact absurd rfl hreset
  | requestOffer p r => exact keeps_requestOffer s p hwell
  | memoryTake => exact keeps_memoryTake s
  | delivery p => exact keeps_delivery s p
  | conversionCompletion raw => exact keeps_conversionCompletion s raw
  | conversionFault => exact keeps_conversionFault s
  | emptyRoundEnd => exact keeps_emptyRoundEnd s
  | railFilterExpiry => exact keeps_railFilterExpiry s
  | surgeFilterExpiry => exact keeps_surgeFilterExpiry s
  | leaseOpenTime => exact keeps_leaseOpenTime s
  | leaseCloseTime => exact keeps_leaseCloseTime s
  | frameError edges => exact keeps_frameError s hwell
  | frozenEntry => exact .next (frozenCheck_waiting s)
  | resetNAssert | resetNRelease | requestTake p | railgoodFall | railgoodRise | surgeAssert | surgeDeassert
  | csNAssert | powerOnCsNRelease => exact .ite (.next rfl) (.next rfl)
  | memoryOffer | memoryResponse m | responseOffer p | refillTick | ageTick | cycleBoundary | controlTick
  | repetitionPeriodStart => exact .next rfl
  | _ => cases hframe

/-- The end of power-on reset: every timer starts anew, so no expiry waits (R176). -/
theorem answers_powerOnReset : Answers (Undoes s) (exec .powerOnReset s) :=
  .next ⟨rfl, rfl, List.nil_sublist s.due⟩

/-- Three commands have operands that their types do not bound, and each checks them first (log entry 20). -/
theorem exec_of_not_wellFormed {i : Instr} (h : i.wellFormed = false) : exec i s = .refused .illFormed := by
  cases i with
  | requestOffer p r => exact if_neg (Bool.eq_false_iff.1 h)
  | frameError edges => exact if_pos (Decidable.not_not.1 (of_decide_eq_false h))
  | unknown code => exact if_pos ((Bool.not_eq_false' _).mp h)
  | _ => cases h

end Events

/-- Settles O2: a frame's report and the guards of the other commands have a next state on every branch, and of the
effects only a timer's restart takes expiries away. -/
theorem everyCommandCompletes : Obligations.EveryCommandCompletes := by
  unfold Obligations.EveryCommandCompletes
  refine fun c s => ⟨fun hwell => ?_, exec_of_not_wellFormed s⟩
  by_cases hkept : isFrame c = false ∧ c ≠ .powerOnReset
  · obtain ⟨hframe, hreset⟩ := hkept
    obtain ⟨t, hexec, hwaiting⟩ := keeps_of_not_isFrame s hframe hreset hwell
    obtain ⟨hpending, hdue, hcount⟩ := waiting_eq_iff.1 hwaiting
    exact ⟨t, hexec, hpending, hcount, hdue ▸ List.Sublist.refl _, fun _ _ => hdue⟩
  · have hanswers : Answers (Undoes s) (exec c s) := by
      by_cases hreset : c = .powerOnReset
      · exact hreset ▸ answers_powerOnReset s
      · exact answers_of_isFrame s (Bool.not_eq_false _ ▸ fun h => hkept ⟨h, hreset⟩) hwell
    obtain ⟨t, hexec, hpending, hcount, hdue⟩ := hanswers
    exact ⟨t, hexec, hpending, hcount, hdue, fun hframe hreset => absurd ⟨hframe, hreset⟩ hkept⟩

end Sys2Proof.Completion
